-- ==== Sys2Proof/Word.lean ====
section
/-! DEFINITION. The fixed-width words of the block: the widths of 00_scope.md R7 and R10. -/

namespace Sys2Proof

/-- The packed configuration word, 128 bits (00_scope.md R7 CFG_W, 30_encoding.md R90). -/
abbrev CfgWord := BitVec 128

/-- A position, Q12.4, a plain 16-bit vector (10_state.md R30, D32). -/
abbrev Coord := BitVec 16

/-- A depth ordinal (43_ztest.md R189). -/
abbrev Depth := BitVec 32

/-- An 8-bit color channel or alpha value. -/
abbrev U8 := BitVec 8

/-- A 9-bit color channel between AlphaBlend and Clamp (10_state.md R31). -/
abbrev U9 := BitVec 9

end Sys2Proof
end

