-- ==== Sys2Proof/Config.lean ====
section
/-! DEFINITION. What an implementation of the block fixes: the parameters of 00_scope.md R7. -/

namespace Sys2Proof.Config

/-- The decided value of the parameter DITHER_COORD_LSB, the lowest bit of x and y that indexes the dither
matrix: 4 (00_scope.md R7, 45_dither.md R221, D17; the other reading, 0, is U4; log entry 10). The
machine runs with every value of the parameter (`Params`); this is the one `State.reset` has. -/
def ditherCoordLsb : Nat := 4

/-- N for the machine right after reset: "1 for the standalone pipeline" (00_scope.md R7).
DESIGN CHOICE, log entry 3: every definition and statement works for any number of lanes. -/
def standaloneLanes : Nat := 1

/-- CFG_W (00_scope.md R7). -/
def cfgWidth : Nat := 128

end Sys2Proof.Config

namespace Sys2Proof

/-- The configuration of the model: the parameters of 00_scope.md R7 that an implementation chooses and
that stay as they are while it runs. N, the other one, is the length of the list of lanes (log entry 3). -/
structure Params where
  /-- DITHER_COORD_LSB (45_dither.md R221, 93_implementation_defined.md U4; log entry 10) -/
  ditherCoordLsb : Nat := Config.ditherCoordLsb
deriving DecidableEq, Repr

end Sys2Proof
end

