-- ==== Sys2Proof/Syntax.lean ====
section
/-! DEFINITION. The operations of the block: one constructor of `Instr` per row of
spec/opcode_table.json (30_encoding.md R116), in the table's order, with the row's operand fields. -/

namespace Sys2Proof

/-- The twelve operation groups of 30_encoding.md R91. One `CFG` word selects one operation of each. -/
inductive Group where
  /-- AT, fields ATE, ATST -/
  | alphaTest
  /-- AFAIL -/
  | alphaFail
  /-- DAT, fields DATE, DATM -/
  | dstTest
  /-- ZT, fields ZTE, ZTST -/
  | depthTest
  /-- BLEND, fields ABE, PABE -/
  | blend
  /-- A -/
  | operandA
  /-- B -/
  | operandB
  /-- C -/
  | operandC
  /-- D -/
  | operandD
  /-- DTH, field DTHE -/
  | dither
  /-- CLAMP -/
  | clamp
  /-- FBA -/
  | alphaFix
deriving DecidableEq, Repr

/-- The groups in the order of 30_encoding.md R91. -/
def Group.all : List Group :=
  [.alphaTest, .alphaFail, .dstTest, .depthTest, .blend, .operandA,
   .operandB, .operandC, .operandD, .dither, .clamp, .alphaFix]

/-- One CFG-selected operation (30_encoding.md R116). Its arguments are the operand fields the table
gives the row: AREF (8 bits), FBPSM (6 bits), FIX (8 bits), DIMX (64 bits). -/
inductive Instr where
  /-- `AT.OFF` (R151): alpha test disabled: result pass -/
  | atOff
  /-- `AT.NEVER` (R152): alpha test NEVER -/
  | atNever
  /-- `AT.ALWAYS` (R153): alpha test ALWAYS -/
  | atAlways
  /-- `AT.LESS` (R154): alpha test LESS -/
  | atLess (aref : BitVec 8)
  /-- `AT.LEQUAL` (R155): alpha test LEQUAL -/
  | atLequal (aref : BitVec 8)
  /-- `AT.EQUAL` (R156): alpha test EQUAL -/
  | atEqual (aref : BitVec 8)
  /-- `AT.GEQUAL` (R157): alpha test GEQUAL -/
  | atGequal (aref : BitVec 8)
  /-- `AT.GREATER` (R158): alpha test GREATER -/
  | atGreater (aref : BitVec 8)
  /-- `AT.NOTEQUAL` (R159): alpha test NOTEQUAL -/
  | atNotequal (aref : BitVec 8)
  /-- `AFAIL.KEEP` (R160): alpha fail-mode KEEP -/
  | afailKeep
  /-- `AFAIL.FB_ONLY` (R161): alpha fail-mode FB_ONLY -/
  | afailFbOnly
  /-- `AFAIL.ZB_ONLY` (R162): alpha fail-mode ZB_ONLY -/
  | afailZbOnly
  /-- `AFAIL.RGB_ONLY` (R163): alpha fail-mode RGB_ONLY -/
  | afailRgbOnly (fbpsm : BitVec 6)
  /-- `DAT.OFF` (R171): destination alpha test disabled -/
  | datOff
  /-- `DAT.EXPECT0` (R174): pass when alpha bit 7 is 0 -/
  | datExpect0 (fbpsm : BitVec 6)
  /-- `DAT.EXPECT1` (R175): pass when alpha bit 7 is 1 -/
  | datExpect1 (fbpsm : BitVec 6)
  /-- `ZT.OFF` (R182): depth test disabled -/
  | ztOff
  /-- `ZT.NEVER` (R183): depth test NEVER -/
  | ztNever
  /-- `ZT.ALWAYS` (R184): depth test ALWAYS -/
  | ztAlways
  /-- `ZT.GEQUAL` (R185): depth test GEQUAL -/
  | ztGequal
  /-- `ZT.GREATER` (R186): depth test GREATER -/
  | ztGreater
  /-- `BLEND.OFF` (R191): blending disabled -/
  | blendOff
  /-- `BLEND.ALL` (R192): blend every fragment -/
  | blendAll
  /-- `BLEND.PABE` (R193): blend only fragments with alpha bit 7 set -/
  | blendPabe
  /-- `A.SRC` (R194): operand A = SRC -/
  | aSrc
  /-- `A.FB` (R195): operand A = FB -/
  | aFb
  /-- `A.ZERO` (R196): operand A = ZERO -/
  | aZero
  /-- `A.RSVD` (R197): reserved value, acts as zero -/
  | aRsvd
  /-- `B.SRC` (R198): operand B = SRC -/
  | bSrc
  /-- `B.FB` (R199): operand B = FB -/
  | bFb
  /-- `B.ZERO` (R200): operand B = ZERO -/
  | bZero
  /-- `B.RSVD` (R201): reserved value, acts as zero -/
  | bRsvd
  /-- `C.AS` (R202): operand C = AS -/
  | cAs
  /-- `C.AD` (R203): operand C = AD -/
  | cAd
  /-- `C.FIX` (R204): operand C = FIX -/
  | cFix (fix : BitVec 8)
  /-- `C.RSVD` (R205): reserved value, acts as FIX -/
  | cRsvd (fix : BitVec 8)
  /-- `D.SRC` (R206): operand D = SRC -/
  | dSrc
  /-- `D.FB` (R207): operand D = FB -/
  | dFb
  /-- `D.ZERO` (R208): operand D = ZERO -/
  | dZero
  /-- `D.RSVD` (R209): reserved value, acts as zero -/
  | dRsvd
  /-- `DTH.OFF` (R223): dither disabled -/
  | dthOff
  /-- `DTH.ON` (R224): dither enabled -/
  | dthOn (dimx : BitVec 64)
  /-- `CLAMP.MASK` (R232): keep low 8 bits -/
  | clampMask
  /-- `CLAMP.CLAMP` (R231): saturate above 255 -/
  | clampClamp
  /-- `FBA.0` (R233): alpha bit 7 forced to 0 -/
  | fba0
  /-- `FBA.1` (R234): alpha bit 7 forced to 1 -/
  | fba1
deriving DecidableEq, Repr

/-- The group an operation belongs to (30_encoding.md R91). -/
def Instr.group : Instr → Group
  | .atOff => .alphaTest
  | .atNever => .alphaTest
  | .atAlways => .alphaTest
  | .atLess _ => .alphaTest
  | .atLequal _ => .alphaTest
  | .atEqual _ => .alphaTest
  | .atGequal _ => .alphaTest
  | .atGreater _ => .alphaTest
  | .atNotequal _ => .alphaTest
  | .afailKeep => .alphaFail
  | .afailFbOnly => .alphaFail
  | .afailZbOnly => .alphaFail
  | .afailRgbOnly _ => .alphaFail
  | .datOff => .dstTest
  | .datExpect0 _ => .dstTest
  | .datExpect1 _ => .dstTest
  | .ztOff => .depthTest
  | .ztNever => .depthTest
  | .ztAlways => .depthTest
  | .ztGequal => .depthTest
  | .ztGreater => .depthTest
  | .blendOff => .blend
  | .blendAll => .blend
  | .blendPabe => .blend
  | .aSrc => .operandA
  | .aFb => .operandA
  | .aZero => .operandA
  | .aRsvd => .operandA
  | .bSrc => .operandB
  | .bFb => .operandB
  | .bZero => .operandB
  | .bRsvd => .operandB
  | .cAs => .operandC
  | .cAd => .operandC
  | .cFix _ => .operandC
  | .cRsvd _ => .operandC
  | .dSrc => .operandD
  | .dFb => .operandD
  | .dZero => .operandD
  | .dRsvd => .operandD
  | .dthOff => .dither
  | .dthOn _ => .dither
  | .clampMask => .clamp
  | .clampClamp => .clamp
  | .fba0 => .alphaFix
  | .fba1 => .alphaFix

/-! ### Operand selectors of AlphaBlend (30_encoding.md R98, R99)

"Keep RGB-selector and alpha-selector as two distinct closed enums since their value sets differ". -/

/-- `RgbSel`: what the fields A, B and D can select (30_encoding.md R98, R99). -/
inductive RgbSel where
  /-- SOURCE: the source color triple -/
  | source
  /-- FRAMEBUFFER: the framebuffer color triple -/
  | framebuffer
  /-- ZERO: the zero triple -/
  | zero
deriving DecidableEq, Repr

/-- `AlphaSel`: what the field C can select (30_encoding.md R99). -/
inductive AlphaSel where
  /-- SOURCE_ALPHA: the fragment's own alpha -/
  | sourceAlpha
  /-- FRAMEBUFFER_ALPHA: the framebuffer alpha -/
  | framebufferAlpha
  /-- FIXED: the fixed alpha constant -/
  | fixed
deriving DecidableEq, Repr

end Sys2Proof
end

