-- ==== Sys2Proof/WellFormed.lean ====
section
/-! DEFINITION. When a list of operations names one configuration (30_encoding.md R91, R118).

A single `Instr` is always well formed: its operands are bit vectors of exactly the widths of
10_state.md R43, and every value of them is legal (30_encoding.md R107). What can be ill formed is a
LIST of operations, since one `CFG` word holds one operation of each group and one FBPSM field. -/

namespace Sys2Proof

/-- The FBPSM operand an operation carries, if it carries one. The field is shared by
AFAIL.RGB_ONLY and the DAT group (30_encoding.md R91). -/
def Instr.format? : Instr → Option (BitVec 6)
  | .afailRgbOnly fbpsm => some fbpsm
  | .datExpect0 fbpsm => some fbpsm
  | .datExpect1 fbpsm => some fbpsm
  | _ => none

/-- No group is named twice: a word selects one operation of each group (30_encoding.md R91). -/
def distinctGroups (ops : List Instr) : Bool := decide (ops.map Instr.group).Nodup

/-- The operations that carry FBPSM carry the same one: `CFG` has one such field (10_state.md R43). -/
def formatsAgree (ops : List Instr) : Bool :=
  match ops.filterMap Instr.format? with
  | [] => true
  | f :: fs => fs.all (· == f)

/-- The list names each of the twelve groups, in the order of 30_encoding.md R91. -/
def allGroups (ops : List Instr) : Bool := ops.map Instr.group == Group.all

/-- A list of operations in the sense of 30_encoding.md R118: some configuration word selects all of
them. Groups that are not named take their all-zero operation. -/
def wellFormedOps (ops : List Instr) : Bool := distinctGroups ops && formatsAgree ops

/-- A complete selection: one operation of each group (30_encoding.md R91), the form in which a
configuration word is decoded. -/
def wellFormedSelection (ops : List Instr) : Bool := allGroups ops && formatsAgree ops

end Sys2Proof
end

