-- ==== Sys2Proof/Decode.lean ====
section
/-! DEFINITION. Decoding a configuration word into the operations it selects (30_encoding.md R91,
R116), packing and unpacking the fields of `CFG` (10_state.md R43, 30_encoding.md R92), and the
encoder of an operation. -/

namespace Sys2Proof

/-- One row of the operation table (30_encoding.md R116): a word `w` selects the row when
`w and mask = match`; `build` takes the row's operand fields from the word. -/
structure Row where
  mnemonic : String
  mask : CfgWord
  pattern : CfgWord
  build : CfgWord → Instr

/-- "A `CFG` word w selects the operation of a row when `(w and mask) = match`" (R116). -/
def Row.selects (r : Row) (w : CfgWord) : Bool := w &&& r.mask == r.pattern

/-- AREF, bits [11:4] (10_state.md R43). -/
def operandAref (w : CfgWord) : BitVec 8 := w.extractLsb' 4 8

/-- FIX, bits [36:29] (10_state.md R43). -/
def operandFix (w : CfgWord) : BitVec 8 := w.extractLsb' 29 8

/-- FBPSM, bits [45:40] (10_state.md R43). -/
def operandFbpsm (w : CfgWord) : BitVec 6 := w.extractLsb' 40 6

/-- DIMX, bits [127:64] (10_state.md R43). -/
def operandDimx (w : CfgWord) : BitVec 64 := w.extractLsb' 64 64

/-- The rows of one group, in the table's order (30_encoding.md R116). -/
def rows : Group → List Row
  | .alphaTest =>
    [⟨"AT.OFF", 0x1, 0x0, fun _ => .atOff⟩,
     ⟨"AT.NEVER", 0xF, 0x1, fun _ => .atNever⟩,
     ⟨"AT.ALWAYS", 0xF, 0x3, fun _ => .atAlways⟩,
     ⟨"AT.LESS", 0xF, 0x5, fun w => .atLess (operandAref w)⟩,
     ⟨"AT.LEQUAL", 0xF, 0x7, fun w => .atLequal (operandAref w)⟩,
     ⟨"AT.EQUAL", 0xF, 0x9, fun w => .atEqual (operandAref w)⟩,
     ⟨"AT.GEQUAL", 0xF, 0xB, fun w => .atGequal (operandAref w)⟩,
     ⟨"AT.GREATER", 0xF, 0xD, fun w => .atGreater (operandAref w)⟩,
     ⟨"AT.NOTEQUAL", 0xF, 0xF, fun w => .atNotequal (operandAref w)⟩]
  | .alphaFail =>
    [⟨"AFAIL.KEEP", 0x3000, 0x0, fun _ => .afailKeep⟩,
     ⟨"AFAIL.FB_ONLY", 0x3000, 0x1000, fun _ => .afailFbOnly⟩,
     ⟨"AFAIL.ZB_ONLY", 0x3000, 0x2000, fun _ => .afailZbOnly⟩,
     ⟨"AFAIL.RGB_ONLY", 0x3000, 0x3000, fun w => .afailRgbOnly (operandFbpsm w)⟩]
  | .dstTest =>
    [⟨"DAT.OFF", 0x4000, 0x0, fun _ => .datOff⟩,
     ⟨"DAT.EXPECT0", 0xC000, 0x4000, fun w => .datExpect0 (operandFbpsm w)⟩,
     ⟨"DAT.EXPECT1", 0xC000, 0xC000, fun w => .datExpect1 (operandFbpsm w)⟩]
  | .depthTest =>
    [⟨"ZT.OFF", 0x10000, 0x0, fun _ => .ztOff⟩,
     ⟨"ZT.NEVER", 0x70000, 0x10000, fun _ => .ztNever⟩,
     ⟨"ZT.ALWAYS", 0x70000, 0x30000, fun _ => .ztAlways⟩,
     ⟨"ZT.GEQUAL", 0x70000, 0x50000, fun _ => .ztGequal⟩,
     ⟨"ZT.GREATER", 0x70000, 0x70000, fun _ => .ztGreater⟩]
  | .blend =>
    [⟨"BLEND.OFF", 0x80000, 0x0, fun _ => .blendOff⟩,
     ⟨"BLEND.ALL", 0x180000, 0x80000, fun _ => .blendAll⟩,
     ⟨"BLEND.PABE", 0x180000, 0x180000, fun _ => .blendPabe⟩]
  | .operandA =>
    [⟨"A.SRC", 0x600000, 0x0, fun _ => .aSrc⟩,
     ⟨"A.FB", 0x600000, 0x200000, fun _ => .aFb⟩,
     ⟨"A.ZERO", 0x600000, 0x400000, fun _ => .aZero⟩,
     ⟨"A.RSVD", 0x600000, 0x600000, fun _ => .aRsvd⟩]
  | .operandB =>
    [⟨"B.SRC", 0x1800000, 0x0, fun _ => .bSrc⟩,
     ⟨"B.FB", 0x1800000, 0x800000, fun _ => .bFb⟩,
     ⟨"B.ZERO", 0x1800000, 0x1000000, fun _ => .bZero⟩,
     ⟨"B.RSVD", 0x1800000, 0x1800000, fun _ => .bRsvd⟩]
  | .operandC =>
    [⟨"C.AS", 0x6000000, 0x0, fun _ => .cAs⟩,
     ⟨"C.AD", 0x6000000, 0x2000000, fun _ => .cAd⟩,
     ⟨"C.FIX", 0x6000000, 0x4000000, fun w => .cFix (operandFix w)⟩,
     ⟨"C.RSVD", 0x6000000, 0x6000000, fun w => .cRsvd (operandFix w)⟩]
  | .operandD =>
    [⟨"D.SRC", 0x18000000, 0x0, fun _ => .dSrc⟩,
     ⟨"D.FB", 0x18000000, 0x8000000, fun _ => .dFb⟩,
     ⟨"D.ZERO", 0x18000000, 0x10000000, fun _ => .dZero⟩,
     ⟨"D.RSVD", 0x18000000, 0x18000000, fun _ => .dRsvd⟩]
  | .dither =>
    [⟨"DTH.OFF", 0x2000000000, 0x0, fun _ => .dthOff⟩,
     ⟨"DTH.ON", 0x2000000000, 0x2000000000, fun w => .dthOn (operandDimx w)⟩]
  | .clamp =>
    [⟨"CLAMP.MASK", 0x4000000000, 0x0, fun _ => .clampMask⟩,
     ⟨"CLAMP.CLAMP", 0x4000000000, 0x4000000000, fun _ => .clampClamp⟩]
  | .alphaFix =>
    [⟨"FBA.0", 0x8000000000, 0x0, fun _ => .fba0⟩,
     ⟨"FBA.1", 0x8000000000, 0x8000000000, fun _ => .fba1⟩]

/-- The row of group `g` that the word selects. Some row always matches (R116). -/
def selectedRow (g : Group) (w : CfgWord) : Option Row := (rows g).find? (·.selects w)

/-- The operation of group `g` that the word selects, with its operands. -/
def decodeGroup (g : Group) (w : CfgWord) : Option Instr := (selectedRow g w).map (·.build w)

/-- The operations the word selects: one of each of the twelve groups (30_encoding.md R91). -/
def decodeOps (w : CfgWord) : List Instr := Group.all.filterMap (decodeGroup · w)

/-- Why a string of bits is no configuration word: there is one length, 128 bits (30_encoding.md
R90). No 128-bit word is refused (R107). -/
inductive DecodeReject where
  /-- more bits are given than a configuration word has -/
  | tooLong
  /-- the number does not fit in the bits said to be given -/
  | bitsBeyondLength
deriving DecidableEq, Repr

/-- The configuration word whose low `nbits` bits are `w` and whose other bits are 0. -/
def configWord (nbits w : Nat) : Except DecodeReject CfgWord :=
  if Config.cfgWidth < nbits then .error .tooLong
  else if 2 ^ nbits ≤ w then .error .bitsBeyondLength
  else .ok (BitVec.ofNat 128 w)

/-- The ONE operation a word is read as where an interface asks for one: a word selects twelve
operations at once, and by 30_encoding.md R118 it is named by those that are not their group's
all-zero operation. Of these the last in the order of R91 is taken; for the zero word, which names
none, the last all-zero operation whose mask lies within the first `nbits` bits.
DESIGN CHOICE, log entries 4 and 5: which of the twelve is taken changes no step. -/
def namedOperation (nbits : Nat) (w : CfgWord) : Option Instr :=
  let selected := (Group.all.filterMap (selectedRow · w)).reverse
  match selected.find? (fun r => r.pattern != 0#128) with
  | some r => some (r.build w)
  | none => (selected.find? (fun r => decide (r.mask.toNat < 2 ^ nbits))).map (·.build w)

/-- The operation read from a word of `nbits` bits given as a number, bit 0 the least significant
(00_scope.md R9); `none` where `configWord` rejects it. -/
def decodeTableWord (nbits w : Nat) : Option Instr :=
  match configWord nbits w with
  | .ok c => namedOperation nbits c
  | .error _ => none

/-! ### Encoding -/

/-- A value placed with its bit 0 at bit `lo` of a configuration word. -/
def placed (n lo : Nat) (v : BitVec n) : CfgWord := v.setWidth 128 <<< lo

/-- The word of one operation: its selecting fields and its operands at the positions of
10_state.md R43 with the values of R95 to R103, every other bit 0. -/
def encode : Instr → CfgWord
  | .atOff => 0
  | .atNever => placed 1 0 1
  | .atAlways => placed 1 0 1 ||| placed 3 1 1
  | .atLess aref => placed 1 0 1 ||| placed 3 1 2 ||| placed 8 4 aref
  | .atLequal aref => placed 1 0 1 ||| placed 3 1 3 ||| placed 8 4 aref
  | .atEqual aref => placed 1 0 1 ||| placed 3 1 4 ||| placed 8 4 aref
  | .atGequal aref => placed 1 0 1 ||| placed 3 1 5 ||| placed 8 4 aref
  | .atGreater aref => placed 1 0 1 ||| placed 3 1 6 ||| placed 8 4 aref
  | .atNotequal aref => placed 1 0 1 ||| placed 3 1 7 ||| placed 8 4 aref
  | .afailKeep => 0
  | .afailFbOnly => placed 2 12 1
  | .afailZbOnly => placed 2 12 2
  | .afailRgbOnly fbpsm => placed 2 12 3 ||| placed 6 40 fbpsm
  | .datOff => 0
  | .datExpect0 fbpsm => placed 1 14 1 ||| placed 6 40 fbpsm
  | .datExpect1 fbpsm => placed 1 14 1 ||| placed 1 15 1 ||| placed 6 40 fbpsm
  | .ztOff => 0
  | .ztNever => placed 1 16 1
  | .ztAlways => placed 1 16 1 ||| placed 2 17 1
  | .ztGequal => placed 1 16 1 ||| placed 2 17 2
  | .ztGreater => placed 1 16 1 ||| placed 2 17 3
  | .blendOff => 0
  | .blendAll => placed 1 19 1
  | .blendPabe => placed 1 19 1 ||| placed 1 20 1
  | .aSrc => 0
  | .aFb => placed 2 21 1
  | .aZero => placed 2 21 2
  | .aRsvd => placed 2 21 3
  | .bSrc => 0
  | .bFb => placed 2 23 1
  | .bZero => placed 2 23 2
  | .bRsvd => placed 2 23 3
  | .cAs => 0
  | .cAd => placed 2 25 1
  | .cFix fix => placed 2 25 2 ||| placed 8 29 fix
  | .cRsvd fix => placed 2 25 3 ||| placed 8 29 fix
  | .dSrc => 0
  | .dFb => placed 2 27 1
  | .dZero => placed 2 27 2
  | .dRsvd => placed 2 27 3
  | .dthOff => 0
  | .dthOn dimx => placed 1 37 1 ||| placed 64 64 dimx
  | .clampMask => 0
  | .clampClamp => placed 1 38 1
  | .fba0 => 0
  | .fba1 => placed 1 39 1

/-- The word of a list of operations: groups that are not named take their all-zero operation
(30_encoding.md R118). -/
def encodeOps (ops : List Instr) : CfgWord := ops.foldr (fun i w => encode i ||| w) 0

/-! ### The fields of `CFG`, lossless -/

/-- The fields of `CFG` (10_state.md R43), in the order of their bits from 0 up. A flag is a `Bool`,
an enumeration the bits of its field (the value 3 of A to D, which no
member has, must survive; `decodeRgbSel` and `decodeAlphaSel` give the members). `reserved` is CFG[63:50]; the reserved bit 3 of each dither cell
(R45, R110) is inside `dimx`. -/
structure CfgFields where
  ate : Bool := false
  atst : BitVec 3 := 0
  aref : BitVec 8 := 0
  afail : BitVec 2 := 0
  date : Bool := false
  datm : Bool := false
  zte : Bool := false
  ztst : BitVec 2 := 0
  abe : Bool := false
  pabe : Bool := false
  a : BitVec 2 := 0
  b : BitVec 2 := 0
  c : BitVec 2 := 0
  d : BitVec 2 := 0
  fix : BitVec 8 := 0
  dthe : Bool := false
  clamp : Bool := false
  fba : Bool := false
  fbpsm : BitVec 6 := 0
  zpsm : BitVec 4 := 0
  reserved : BitVec 14 := 0
  dimx : BitVec 64 := 0
deriving DecidableEq, Repr

/-- The fields of a word, each at its bits of 10_state.md R43. -/
def unpackCfg (w : CfgWord) : CfgFields where
  ate := w.getLsbD 0
  atst := w.extractLsb' 1 3
  aref := w.extractLsb' 4 8
  afail := w.extractLsb' 12 2
  date := w.getLsbD 14
  datm := w.getLsbD 15
  zte := w.getLsbD 16
  ztst := w.extractLsb' 17 2
  abe := w.getLsbD 19
  pabe := w.getLsbD 20
  a := w.extractLsb' 21 2
  b := w.extractLsb' 23 2
  c := w.extractLsb' 25 2
  d := w.extractLsb' 27 2
  fix := w.extractLsb' 29 8
  dthe := w.getLsbD 37
  clamp := w.getLsbD 38
  fba := w.getLsbD 39
  fbpsm := w.extractLsb' 40 6
  zpsm := w.extractLsb' 46 4
  reserved := w.extractLsb' 50 14
  dimx := w.extractLsb' 64 64

/-- The word of the fields: the layout of 30_encoding.md R92, most significant field first. -/
def packCfg (f : CfgFields) : CfgWord :=
  f.dimx ++ f.reserved ++ f.zpsm ++ f.fbpsm ++
  BitVec.ofBool f.fba ++ BitVec.ofBool f.clamp ++ BitVec.ofBool f.dthe ++ f.fix ++
  f.d ++ f.c ++ f.b ++ f.a ++ BitVec.ofBool f.pabe ++ BitVec.ofBool f.abe ++
  f.ztst ++ BitVec.ofBool f.zte ++ BitVec.ofBool f.datm ++ BitVec.ofBool f.date ++
  f.afail ++ f.aref ++ f.atst ++ BitVec.ofBool f.ate

/-- The member of `RgbSel` a field A, B or D names (30_encoding.md R98). The value 3 is no member: it acts
as the last one, ZERO (R108; decision D9, log entry 20). -/
def decodeRgbSel (v : BitVec 2) : RgbSel :=
  match v.toNat with
  | 0 => .source
  | 1 => .framebuffer
  | 2 => .zero
  | _ => .zero

/-- The member of `AlphaSel` the field C names (30_encoding.md R99). The value 3 is no member: it acts as
the last one, FIXED (R109; decision D9, log entry 20). -/
def decodeAlphaSel (v : BitVec 2) : AlphaSel :=
  match v.toNat with
  | 0 => .sourceAlpha
  | 1 => .framebufferAlpha
  | 2 => .fixed
  | _ => .fixed

/-- DM[row][col], the 3-bit cell of the matrix (10_state.md R45): bits
[4*(4*row+col)+2 : 4*(4*row+col)] of DIMX, that is of CFG from bit 64 up. -/
def ditherCell (dimx : BitVec 64) (row col : BitVec 2) : BitVec 3 :=
  dimx.extractLsb' (4 * (4 * row.toNat + col.toNat)) 3

end Sys2Proof
end

