-- ==== Sys2Proof/Machine/State.lean ====
section
/-! DEFINITION. The state of the block as plain data: the records of 10_state.md R30 and R33, the six
stage registers of each lane (R36), the configuration latch (R41), and the environment's port values. -/

namespace Sys2Proof.Machine

/-- A fragment record (10_state.md R30) whose color channels have `n` bits. -/
structure Frag (n : Nat) where
  x : Coord := 0
  y : Coord := 0
  z : Depth := 0
  r : BitVec n := 0
  g : BitVec n := 0
  b : BitVec n := 0
  a : U8 := 0
  /-- color-enable -/
  wc : Bool := false
  /-- alpha-enable -/
  wa : Bool := false
  /-- depth-enable -/
  wz : Bool := false
deriving DecidableEq, Repr

/-- The fragment with 8-bit channels: `frag_in`, S1, S2, S3, S6 (10_state.md R30, R31). -/
abbrev Frag8 := Frag 8

/-- The fragment with 9-bit channels: S4, S5 (10_state.md R30, R31). -/
abbrev Frag9 := Frag 9

/-- `BUBBLE` of 30_encoding.md R119 at either width: the all-zero record with its flags false. It is
also the reset value of a stage register (10_state.md R58). -/
def Frag.zero (n : Nat) : Frag n := {}

/-- The framebuffer sample record FbSample (10_state.md R33). -/
structure FbSample where
  r : U8 := 0
  g : U8 := 0
  b : U8 := 0
  a : U8 := 0
deriving DecidableEq, Repr

/-- The stage registers of one lane, one at the output of each stage (10_state.md R36). `s6` drives
`frag_out` (40_pipeline.md R134). -/
structure Lane where
  /-- output of AlphaTest -/
  s1 : Frag8 := {}
  /-- output of DestinationAlphaTest -/
  s2 : Frag8 := {}
  /-- output of ZTest -/
  s3 : Frag8 := {}
  /-- output of AlphaBlend -/
  s4 : Frag9 := {}
  /-- output of Dither -/
  s5 : Frag9 := {}
  /-- output of Clamp -/
  s6 : Frag8 := {}
deriving DecidableEq, Repr

/-- A lane after reset: every bit 0 (10_state.md R58). -/
def Lane.zero : Lane := {}

/-- The input ports of one lane during one step (10_state.md R50). -/
structure LanePorts where
  fragIn : Frag8 := {}
  zrefIn : Depth := 0
  fbIn : FbSample := {}
deriving DecidableEq, Repr

/-- A lane's input ports where the environment's script says nothing: a bubble, `zref_in` and `fb_in`
zero, as 95_test_vectors.md section 3 has them. DESIGN CHOICE, log entry 2. -/
def LanePorts.idle : LanePorts := {}

/-- The input ports of the block during one step (10_state.md R50); `clk` is the step itself. -/
structure Ports where
  rst : Bool := false
  cfgLoad : Bool := false
  cfgData : CfgWord := 0
  /-- the ports of lane 0, lane 1, ... -/
  lanes : List LanePorts := []
deriving DecidableEq, Repr

/-- The ports of a step the environment's script does not reach: `rst` and `cfg_load` low, every lane
idle. DESIGN CHOICE, log entry 2. -/
def Ports.idle : Ports := {}

/-- The block, the environment that drives it, and the parameters it was built with. -/
structure State where
  /-- The stage registers of lanes 0 to N - 1; N is the length (47_array_and_config_load.md R240). -/
  lanes : List Lane
  /-- The configuration latch `CFG` (10_state.md R41). -/
  cfg : CfgWord
  /-- The MODEL's own field: the port values the environment will drive, one record per step still to
  come (10_state.md R48: inputs of the step, not state of the block). Log entry 1. -/
  env : List Ports
  /-- The MODEL's own field: the parameters the block was built with (00_scope.md R7), which no step and no
  reset changes. They are parameters of the step and no state of the block (10_state.md R48); log
  entry 10. -/
  params : Params
deriving DecidableEq, Repr

/-- The block with the parameters `m`, `n` lanes wide, right after reset: every bit of state 0
(10_state.md R58), and an environment that has not been scripted. -/
def State.resetWide (m : Params) (n : Nat) : State where
  lanes := List.replicate n Lane.zero
  cfg := 0
  env := []
  params := m

/-- The machine right after reset (10_state.md R58), with the parameters of 00_scope.md R7 at their values
there: DITHER_COORD_LSB = 4 (log entry 10), and N = 1, the standalone pipeline (log entry 3). -/
def State.reset : State := State.resetWide {} Config.standaloneLanes

/-- Why the machine stops with a fault: never. "A model's step function for the block returns a next
state always, never a fault and never a refusal" (60_exceptions.md R250), so there is no constructor. -/
inductive Fault
deriving DecidableEq, Repr

/-- Why a step has no meaning. -/
inductive Refusal where
  /-- Raised by an arm of `exec` for an operation that has no meaning in the model. Safe: nothing can be
  proved of what the machine would do. No arm raises it. -/
  | notModelled (mnemonic : String)
  /-- Raised by `step` if the configuration word selected no operation. Safe, and never raised: every
  128-bit word selects one operation of each group (30_encoding.md R107, R116; log entry 15). -/
  | noOperation
deriving DecidableEq, Repr

end Sys2Proof.Machine
end

