-- ==== Sys2Proof/Machine/Ops.lean ====
section
/-! DEFINITION. The primitives of 00_scope.md R11, the channel arithmetic of AlphaBlend, Dither and
Clamp, the packed records of 30_encoding.md R93, and the named operations over ports, lanes and latch.

There is no exception to take and none to return from (60_exceptions.md R250, R255, R256). -/

namespace Sys2Proof.Machine

/-! ### Primitives (00_scope.md R11) -/

/-- `zext(v)`: the unsigned value as an integer. -/
def zext {n : Nat} (v : BitVec n) : Int := (v.toNat : Int)

/-- `sext_N(v)`: the pattern read as two's complement. -/
def sext {n : Nat} (v : BitVec n) : Int := v.toInt

/-- `trunc_N(i)`: the `uN` whose value is `i mod 2^N`, for negative `i` too. -/
def trunc (n : Nat) (i : Int) : BitVec n := BitVec.ofInt n i

/-- `trunc_9`, the source's `clip_to_9_bits`: truncation, at both ends (44_alpha_blend.md R213, D11).
One named function, so that another reading can replace it (93_implementation_defined.md U2). -/
def trunc9 (i : Int) : U9 := trunc 9 i

/-- `asr(i, k)`: `floor(i / 2^k)`, toward minus infinity (Lean's integer division by a positive
number rounds so). -/
def asr (i : Int) (k : Nat) : Int := i / 2 ^ k

/-- BLEND_SHIFT (00_scope.md R7). -/
def blendShift : Nat := 7

/-! ### Channel arithmetic -/

/-- The sum of the blend equation before its 9-bit reduction, on unbounded integers
(44_alpha_blend.md R210, R211). -/
def blendSum (ach bch cv dch : Int) : Int := asr ((ach - bch) * cv) blendShift + dch

/-- The blend equation of one channel (44_alpha_blend.md R210). -/
def blend (ach bch cv dch : Int) : U9 := trunc9 (blendSum ach bch cv dch)

/-- A channel AlphaBlend copies: `{0, c}` (30_encoding.md R106). -/
def widen (c : U8) : U9 := trunc9 (zext c)

/-- The channel function of Dither, the offset given (45_dither.md R225). -/
def dith (off : Int) (c : U9) : U9 := trunc9 (zext c + off)

/-- CLAMP.CLAMP of one channel: values above 255 become 255 (46_clamp.md R231). -/
def clampSaturate (c : U9) : U8 := if BitVec.ult 255#9 c then 255#8 else c.extractLsb' 0 8

/-- CLAMP.MASK of one channel: the low 8 bits (46_clamp.md R232). -/
def clampMask (c : U9) : U8 := c.extractLsb' 0 8

/-- Alpha with bit 7 replaced: `{bit, a[6:0]}` (46_clamp.md R233, R234). -/
def replaceAlphaMsb (bit : Bool) (a : U8) : U8 := BitVec.ofBool bit ++ a.extractLsb' 0 7

/-- The reading of a blend sum under CLAMP that the source flags as an open question and this spec
does not adopt: the sum stays signed, negatives become 0 and values above 255 become 255
(93_implementation_defined.md U1, 95_test_vectors.md section 2.7). No step uses it; log entry 8. -/
def altClamp (sum : Int) : U8 := if sum < 0 then 0#8 else if 255 < sum then 255#8 else trunc 8 sum

/-! ### Packed records (30_encoding.md R93) -/

/-- FRAG8, 99 bits. -/
def packFrag8 (f : Frag8) : BitVec 99 :=
  BitVec.ofBool f.wz ++ BitVec.ofBool f.wa ++ BitVec.ofBool f.wc ++
  f.a ++ f.b ++ f.g ++ f.r ++ f.z ++ f.y ++ f.x

/-- The record of a packed FRAG8. -/
def unpackFrag8 (w : BitVec 99) : Frag8 where
  x := w.extractLsb' 0 16
  y := w.extractLsb' 16 16
  z := w.extractLsb' 32 32
  r := w.extractLsb' 64 8
  g := w.extractLsb' 72 8
  b := w.extractLsb' 80 8
  a := w.extractLsb' 88 8
  wc := w.getLsbD 96
  wa := w.getLsbD 97
  wz := w.getLsbD 98

/-- FRAG9, 102 bits. -/
def packFrag9 (f : Frag9) : BitVec 102 :=
  BitVec.ofBool f.wz ++ BitVec.ofBool f.wa ++ BitVec.ofBool f.wc ++
  f.a ++ f.b ++ f.g ++ f.r ++ f.z ++ f.y ++ f.x

/-- The record of a packed FRAG9. -/
def unpackFrag9 (w : BitVec 102) : Frag9 where
  x := w.extractLsb' 0 16
  y := w.extractLsb' 16 16
  z := w.extractLsb' 32 32
  r := w.extractLsb' 64 9
  g := w.extractLsb' 73 9
  b := w.extractLsb' 82 9
  a := w.extractLsb' 91 8
  wc := w.getLsbD 99
  wa := w.getLsbD 100
  wz := w.getLsbD 101

/-- FBS, 32 bits. -/
def packFb (s : FbSample) : BitVec 32 := s.a ++ s.b ++ s.g ++ s.r

/-- The record of a packed FBS. -/
def unpackFb (w : BitVec 32) : FbSample where
  r := w.extractLsb' 0 8
  g := w.extractLsb' 8 8
  b := w.extractLsb' 16 8
  a := w.extractLsb' 24 8

/-! ### Ports, lanes and latch -/

/-- The port values of the coming step. -/
def State.ports (s : State) : Ports := s.env.headD Ports.idle

/-- The input ports of lane `l` in a step; a lane the script does not list is idle. -/
def Ports.lane (p : Ports) (l : Nat) : LanePorts := p.lanes.getD l LanePorts.idle

/-- The output port `frag_out[l]`: S6 of lane l at all times (40_pipeline.md R134). -/
def State.fragOut (s : State) (l : Nat) : Option Frag8 := s.lanes[l]?.map Lane.s6

/-- What `CFG` holds after a step with `rst` low: the presented word when `cfg_load` is true, else its
old value (47_array_and_config_load.md R243). -/
def loadedCfg (p : Ports) (cfg : CfgWord) : CfgWord := if p.cfgLoad then p.cfgData else cfg

/-- One step of the array with `rst` low (47_array_and_config_load.md R241): every lane takes what
`next` gives for its own ports and registers, `CFG` is loaded, and the environment moves on. -/
def State.advance (next : LanePorts → Lane → Lane) (s : State) : State where
  lanes := s.lanes.mapIdx fun l lane => next (s.ports.lane l) lane
  cfg := loadedCfg s.ports s.cfg
  env := s.env.tail
  params := s.params

/-- A clock edge with `rst` high (70_reset_and_hazards.md R270): every stage register of every lane and
`CFG` become 0, in place of the step and of any CFG_LOAD. The port values of the edge are used up. -/
def State.resetEdge (s : State) : State where
  lanes := s.lanes.map fun _ => Lane.zero
  cfg := 0
  env := s.env.tail
  params := s.params

/-- A clock edge (40_pipeline.md R133): reset if `rst` is high, else the step. -/
def State.clockEdge (next : LanePorts → Lane → Lane) (s : State) : State :=
  if s.ports.rst then s.resetEdge else s.advance next

/-! ### The fetch -/

/-- `CFG` as the word the coming step decodes, and `rst` low in that step: what it takes that the step
runs the operations of `w` (log entry 6). -/
def State.withWord (w : CfgWord) (s : State) : State where
  lanes := s.lanes
  cfg := w
  env := match s.env with
    | [] => []
    | p :: ps => { p with rst := false } :: ps
  params := s.params

end Sys2Proof.Machine
end

