-- ==== Sys2Proof/Machine/Operands.lean ====
section
/-! DEFINITION. Every operand a stage computes with (30_encoding.md R105): what an operation of the
groups A, B, C, D, DTH and BLEND takes from the fragment, the framebuffer sample, the position and the
fields of `CFG`, and the predicates on the framebuffer format (10_state.md R47). -/

namespace Sys2Proof.Machine

/-! ### Framebuffer format -/

/-- `is_rgba32(f)`: true exactly for the format with a 32-bit RGBA layout (10_state.md R47). -/
def isRgba32 (fbpsm : BitVec 6) : Bool := fbpsm == 0#6

/-- `has_alpha(f)`: false exactly for the 24-bit RGB format (10_state.md R47). -/
def hasAlpha (fbpsm : BitVec 6) : Bool := fbpsm != 1#6

/-- "High bit" of an 8-bit value: bit 7 (00_scope.md R9). -/
def highBit (v : U8) : Bool := v.getLsbD 7

/-! ### Blend operands. A color operand is a function of the source and the framebuffer channel; the
three channels use the same one (44_alpha_blend.md R216). -/

/-- The operand A, B or D of one channel: the source channel, the framebuffer channel, or zero
(44_alpha_blend.md R194 to R196, R198 to R200, R206 to R208; `selRGB` of R215). -/
def rgbOperand (sel : RgbSel) (src fb : U8) : Int :=
  match sel with
  | .source => zext src
  | .framebuffer => zext fb
  | .zero => 0

/-- The operand C of a fragment: its own alpha, the framebuffer alpha as driven (D35), or the constant
FIX (44_alpha_blend.md R202 to R204; `Cv` of R215). -/
def alphaOperand (sel : AlphaSel) (fix srcA fbA : U8) : Int :=
  match sel with
  | .sourceAlpha => zext srcA
  | .framebufferAlpha => zext fbA
  | .fixed => zext fix

/-! ### Whether blending applies (44_alpha_blend.md section 2) -/

/-- BLEND.OFF (R191). -/
def blendNever (_srcA : U8) : Bool := false

/-- BLEND.ALL (R192). -/
def blendAlways (_srcA : U8) : Bool := true

/-- BLEND.PABE: only fragments whose own alpha has its high bit set (R193). -/
def blendPerPixel (srcA : U8) : Bool := highBit srcA

/-! ### The dither offset -/

/-- The two bits of a coordinate that index the matrix, with DITHER_COORD_LSB as given
(45_dither.md R221). -/
def ditherIndex (lsb : Nat) (v : Coord) : BitVec 2 := v.extractLsb' lsb 2

/-- `off = sext_3(DM[row][col])`, x the column and y the row (45_dither.md R222). -/
def ditherOffset (lsb : Nat) (dimx : BitVec 64) (x y : Coord) : Int :=
  sext (ditherCell dimx (ditherIndex lsb y) (ditherIndex lsb x))

/-- DTH.OFF: the channel is copied (45_dither.md R223). -/
def ditherCopy (_lsb : Nat) (_x _y : Coord) (c : U9) : U9 := c

/-- DTH.ON: the offset of the fragment's position is added (45_dither.md R224). -/
def ditherAdd (dimx : BitVec 64) (lsb : Nat) (x y : Coord) (c : U9) : U9 :=
  dith (ditherOffset lsb dimx x y) c

end Sys2Proof.Machine
end

