-- ==== Sys2Proof/Machine/Flags.lean ====
section
/-! DEFINITION. Every computation of the write-enable flags (10_state.md R34): the results of the three
tests and the gating of `wc`, `wa`, `wz` by them (40_pipeline.md R139). -/

namespace Sys2Proof.Machine

/-! ### Alpha test results `ta` (41_alpha_test.md section 2); comparisons are unsigned (R168) -/

/-- AT.OFF: pass (R151). -/
def alphaOff (_a : U8) : Bool := true

/-- AT.NEVER (R152). -/
def alphaNever (_a : U8) : Bool := false

/-- AT.ALWAYS (R153). -/
def alphaAlways (_a : U8) : Bool := true

/-- AT.LESS: `f.a <u cfg.AREF` (R154). -/
def alphaLess (aref a : U8) : Bool := BitVec.ult a aref

/-- AT.LEQUAL: `f.a ≤u cfg.AREF` (R155). -/
def alphaLequal (aref a : U8) : Bool := BitVec.ule a aref

/-- AT.EQUAL: all 8 bits equal (R156). -/
def alphaEqual (aref a : U8) : Bool := a == aref

/-- AT.GEQUAL: `f.a ≥u cfg.AREF` (R157). -/
def alphaGequal (aref a : U8) : Bool := BitVec.ule aref a

/-- AT.GREATER: `f.a >u cfg.AREF` (R158). -/
def alphaGreater (aref a : U8) : Bool := BitVec.ult aref a

/-- AT.NOTEQUAL: some bit differs (R159). -/
def alphaNotequal (aref a : U8) : Bool := a != aref

/-! ### Alpha fail-modes (41_alpha_test.md section 3) -/

/-- Which flags the alpha test's result is ANDed into: `(mc, ma, mz)` of 41_alpha_test.md R165. -/
structure Gates where
  mc : Bool
  ma : Bool
  mz : Bool
deriving DecidableEq, Repr

/-- AFAIL.KEEP: gate color, alpha and depth (R160). -/
def gatesKeep : Gates := ⟨true, true, true⟩

/-- AFAIL.FB_ONLY: gate depth only (R161). -/
def gatesFbOnly : Gates := ⟨false, false, true⟩

/-- AFAIL.ZB_ONLY: gate color and alpha (R162). -/
def gatesZbOnly : Gates := ⟨true, true, false⟩

/-- AFAIL.RGB_ONLY: gate alpha and depth for the 32-bit RGBA layout, else exactly FB_ONLY (R163). -/
def gatesRgbOnly (fbpsm : BitVec 6) : Gates :=
  if isRgba32 fbpsm then ⟨false, true, true⟩ else gatesFbOnly

/-! ### Destination alpha test results `td` (42_dst_alpha_test.md) -/

/-- DAT.OFF: pass (R171). -/
def dstOff (_a : U8) : Bool := true

/-- DAT.EXPECT0: pass when bit 7 of the fragment's own alpha is 0, or the format has no alpha
(R172, R174). -/
def dstExpect0 (fbpsm : BitVec 6) (a : U8) : Bool := !hasAlpha fbpsm || !highBit a

/-- DAT.EXPECT1: pass when bit 7 of the fragment's own alpha is 1, or the format has no alpha
(R172, R175). -/
def dstExpect1 (fbpsm : BitVec 6) (a : U8) : Bool := !hasAlpha fbpsm || highBit a

/-! ### Depth test results `tz` (43_ztest.md section 2); depth values are unsigned ordinals (R189) -/

/-- ZT.OFF: pass (R182). -/
def depthOff (_z _zref : Depth) : Bool := true

/-- ZT.NEVER (R183). -/
def depthNever (_z _zref : Depth) : Bool := false

/-- ZT.ALWAYS (R184). -/
def depthAlways (_z _zref : Depth) : Bool := true

/-- ZT.GEQUAL: `f.z ≥u zref` (R185). -/
def depthGequal (z zref : Depth) : Bool := BitVec.ule zref z

/-- ZT.GREATER: `f.z >u zref` (R186). -/
def depthGreater (z zref : Depth) : Bool := BitVec.ult zref z

/-! ### Gating -/

/-- The alpha test's result ANDed into the flags the fail-mode selects (41_alpha_test.md R165). -/
def Frag.gateSelected {n : Nat} (g : Gates) (ta : Bool) (f : Frag n) : Frag n :=
  { f with wc := f.wc && (ta || !g.mc), wa := f.wa && (ta || !g.ma), wz := f.wz && (ta || !g.mz) }

/-- A result ANDed into all three flags (42_dst_alpha_test.md R173, 43_ztest.md R187). -/
def Frag.gateAll {n : Nat} (t : Bool) (f : Frag n) : Frag n :=
  { f with wc := f.wc && t, wa := f.wa && t, wz := f.wz && t }

end Sys2Proof.Machine
end

