-- ==== Sys2Proof/Machine/Pipeline.lean ====
section
/-! DEFINITION. The six stage functions (40_pipeline.md R131), the operations in force as a
configuration word's FIELDS give them (the `case`s of R165, R176, R188, R215, R227, R236), one step of
a lane (R133) and the function of a whole pass (R136).

The operations a word selects are reached here by its fields, in `decodeOps` by mask and match; that
the two agree is a statement (`Obligations.StepRunsEverySelectedOperation`). -/

namespace Sys2Proof.Machine

/-- The operations in force during one step, one entry per group of 30_encoding.md R91: what a
horizontal control word drives. It is no state; it is decoded anew in every step. -/
structure Controls where
  /-- AT: `ta`, of the fragment's alpha -/
  alphaResult : U8 → Bool
  /-- AFAIL: the flags `ta` is ANDed into -/
  gates : Gates
  /-- DAT: `td`, of the fragment's alpha -/
  dstResult : U8 → Bool
  /-- ZT: `tz`, of the fragment's depth and the reference -/
  depthResult : Depth → Depth → Bool
  /-- BLEND: whether the equation applies, of the fragment's alpha -/
  applies : U8 → Bool
  /-- A: which color -/
  operandA : RgbSel
  /-- B: which color -/
  operandB : RgbSel
  /-- C: which alpha -/
  operandC : AlphaSel
  /-- C: the constant that `operandC = .fixed` selects -/
  fix : U8
  /-- D: which color -/
  operandD : RgbSel
  /-- DTH: a channel after Dither, of DITHER_COORD_LSB, the position and the channel -/
  dither : Nat → Coord → Coord → U9 → U9
  /-- CLAMP: a channel after Clamp -/
  clamp : U9 → U8
  /-- FBA: the bit that replaces bit 7 of alpha -/
  alphaBit : Bool

/-! ### The stage functions over the operations in force -/

/-- Stage 1 (41_alpha_test.md R165). -/
def alphaTestStage (c : Controls) (f : Frag8) : Frag8 := f.gateSelected c.gates (c.alphaResult f.a)

/-- Stage 2 (42_dst_alpha_test.md R176). -/
def dstAlphaTestStage (c : Controls) (f : Frag8) : Frag8 := f.gateAll (c.dstResult f.a)

/-- Stage 3 (43_ztest.md R188). -/
def zTestStage (c : Controls) (zref : Depth) (f : Frag8) : Frag8 := f.gateAll (c.depthResult f.z zref)

/-- The output of one channel of AlphaBlend: the equation, or the copy (44_alpha_blend.md R215). -/
def blendChannel (c : Controls) (srcA fbA src fb : U8) : U9 :=
  if c.applies srcA then
    blend (rgbOperand c.operandA src fb) (rgbOperand c.operandB src fb)
      (alphaOperand c.operandC c.fix srcA fbA) (rgbOperand c.operandD src fb)
  else widen src

/-- Stage 4 (44_alpha_blend.md R215, R216). -/
def alphaBlendStage (c : Controls) (fb : FbSample) (f : Frag8) : Frag9 where
  x := f.x
  y := f.y
  z := f.z
  r := blendChannel c f.a fb.a f.r fb.r
  g := blendChannel c f.a fb.a f.g fb.g
  b := blendChannel c f.a fb.a f.b fb.b
  a := f.a
  wc := f.wc
  wa := f.wa
  wz := f.wz

/-- Stage 5 (45_dither.md R227, R228), `m` the parameters of the block. -/
def ditherStage (m : Params) (c : Controls) (f : Frag9) : Frag9 :=
  { f with
    r := c.dither m.ditherCoordLsb f.x f.y f.r
    g := c.dither m.ditherCoordLsb f.x f.y f.g
    b := c.dither m.ditherCoordLsb f.x f.y f.b }

/-- Stage 6 (46_clamp.md R236). -/
def clampStage (c : Controls) (f : Frag9) : Frag8 where
  x := f.x
  y := f.y
  z := f.z
  r := c.clamp f.r
  g := c.clamp f.g
  b := c.clamp f.b
  a := replaceAlphaMsb c.alphaBit f.a
  wc := f.wc
  wa := f.wa
  wz := f.wz

/-- One step of a lane with `rst` low (40_pipeline.md R133): the six stage registers written at once,
each from values held at the start of the step; `m` are the parameters of the block. -/
def laneStep (m : Params) (c : Controls) (p : LanePorts) (l : Lane) : Lane where
  s1 := alphaTestStage c p.fragIn
  s2 := dstAlphaTestStage c l.s1
  s3 := zTestStage c p.zrefIn l.s2
  s4 := alphaBlendStage c p.fbIn l.s3
  s5 := ditherStage m c l.s4
  s6 := clampStage c l.s5

/-! ### The operations in force, from the fields of the configuration word -/

/-- AT by ATE and ATST (41_alpha_test.md R165). -/
def alphaResultOf (f : CfgFields) : U8 → Bool :=
  if f.ate then
    match f.atst.toNat with
    | 0 => alphaNever
    | 1 => alphaAlways
    | 2 => alphaLess f.aref
    | 3 => alphaLequal f.aref
    | 4 => alphaEqual f.aref
    | 5 => alphaGequal f.aref
    | 6 => alphaGreater f.aref
    | _ => alphaNotequal f.aref
  else alphaOff

/-- AFAIL (41_alpha_test.md R165). -/
def gatesOf (f : CfgFields) : Gates :=
  match f.afail.toNat with
  | 0 => gatesKeep
  | 1 => gatesFbOnly
  | 2 => gatesZbOnly
  | _ => gatesRgbOnly f.fbpsm

/-- DAT by DATE and DATM (42_dst_alpha_test.md R176). -/
def dstResultOf (f : CfgFields) : U8 → Bool :=
  if f.date then (if f.datm then dstExpect1 f.fbpsm else dstExpect0 f.fbpsm) else dstOff

/-- ZT by ZTE and ZTST (43_ztest.md R188). -/
def depthResultOf (f : CfgFields) : Depth → Depth → Bool :=
  if f.zte then
    match f.ztst.toNat with
    | 0 => depthNever
    | 1 => depthAlways
    | 2 => depthGequal
    | _ => depthGreater
  else depthOff

/-- BLEND by ABE and PABE (44_alpha_blend.md R215). -/
def appliesOf (f : CfgFields) : U8 → Bool :=
  if f.abe then (if f.pabe then blendPerPixel else blendAlways) else blendNever

/-- `selRGB(s, ch)` of 44_alpha_blend.md R215, for the bits of a field A, B or D. -/
def colorOf (s : BitVec 2) : U8 → U8 → Int := rgbOperand (decodeRgbSel s)

/-- `Cv` of 44_alpha_blend.md R215, for the fields C and FIX. -/
def alphaOperandOf (f : CfgFields) : U8 → U8 → Int := alphaOperand (decodeAlphaSel f.c) f.fix

/-- DTH by DTHE, for every DITHER_COORD_LSB (45_dither.md R227). -/
def ditherOf (f : CfgFields) : Nat → Coord → Coord → U9 → U9 :=
  if f.dthe then ditherAdd f.dimx else ditherCopy

/-- CLAMP (46_clamp.md R236). -/
def clampOf (f : CfgFields) : U9 → U8 := if f.clamp then clampSaturate else clampMask

/-- The operations the fields put in force. -/
def Controls.ofFields (f : CfgFields) : Controls where
  alphaResult := alphaResultOf f
  gates := gatesOf f
  dstResult := dstResultOf f
  depthResult := depthResultOf f
  applies := appliesOf f
  operandA := decodeRgbSel f.a
  operandB := decodeRgbSel f.b
  operandC := decodeAlphaSel f.c
  fix := f.fix
  operandD := decodeRgbSel f.d
  dither := ditherOf f
  clamp := clampOf f
  alphaBit := f.fba

/-- The operations a configuration word puts in force. -/
def Controls.ofCfg (cfg : CfgWord) : Controls := Controls.ofFields (unpackCfg cfg)

/-! ### The spec's functions of a configuration word (40_pipeline.md R131, R136)

Where Dither takes part, `m` are the parameters of the block: DITHER_COORD_LSB (00_scope.md R7,
93_implementation_defined.md U4). -/

/-- `AlphaTest(cfg, f)` (41_alpha_test.md R165). -/
def alphaTest (cfg : CfgWord) (f : Frag8) : Frag8 := alphaTestStage (.ofCfg cfg) f

/-- `DstAlphaTest(cfg, f)` (42_dst_alpha_test.md R176). -/
def dstAlphaTest (cfg : CfgWord) (f : Frag8) : Frag8 := dstAlphaTestStage (.ofCfg cfg) f

/-- `ZTest(cfg, zref, f)` (43_ztest.md R188). -/
def zTest (cfg : CfgWord) (zref : Depth) (f : Frag8) : Frag8 := zTestStage (.ofCfg cfg) zref f

/-- `AlphaBlend(cfg, fb, f)` (44_alpha_blend.md R215). -/
def alphaBlend (cfg : CfgWord) (fb : FbSample) (f : Frag8) : Frag9 := alphaBlendStage (.ofCfg cfg) fb f

/-- `Dither(cfg, f)` (45_dither.md R227). -/
def dither (m : Params) (cfg : CfgWord) (f : Frag9) : Frag9 := ditherStage m (.ofCfg cfg) f

/-- `Clamp(cfg, f)` (46_clamp.md R236). -/
def clamp (cfg : CfgWord) (f : Frag9) : Frag8 := clampStage (.ofCfg cfg) f

/-- `PIPE(c, f, zr, fb)`: the function of one pass (40_pipeline.md R136). -/
def pipe (m : Params) (cfg : CfgWord) (f : Frag8) (zr : Depth) (fb : FbSample) : Frag8 :=
  clamp cfg (dither m cfg (alphaBlend cfg fb (zTest cfg zr (dstAlphaTest cfg (alphaTest cfg f)))))

/-- The bare core (47_array_and_config_load.md R244): one step of a lane with the effective
configuration as an input of the step. -/
def bareCore (m : Params) (cfg : CfgWord) (p : LanePorts) (l : Lane) : Lane :=
  laneStep m (.ofCfg cfg) p l

/-! ### The clock edge an operation takes part in -/

/-- A clock edge under the operations of `CFG`, with those that `change` replaces: the meaning every
operation is written with. A step's registers are all written whatever the operations are
(10_state.md R36, 40_pipeline.md R135), so it always answers a next state (60_exceptions.md R250). -/
def edgeUnder (change : Controls → Controls) (s : State) : Host.Outcome State Fault Refusal :=
  .next (s.clockEdge (laneStep s.params (change (.ofCfg s.cfg))))

end Sys2Proof.Machine
end

