-- ==== Sys2Proof/Machine/AlphaBlend.lean ====
section
/-! DEFINITION. Stage 4, AlphaBlend: the operations of the groups BLEND, A, B, C and D (44_alpha_blend.md).

The meaning of an operation is the clock edge (40_pipeline.md R133, 70_reset_and_hazards.md R270) with
that operation in force for its group and the operations of `CFG` for the other eleven. -/

namespace Sys2Proof.Machine

/-- `BLEND.OFF` (R191): blending disabled. -/
def execBlendOff (s : State) : Host.Outcome State Fault Refusal :=
  edgeUnder (fun c => { c with applies := blendNever }) s

/-- `BLEND.ALL` (R192): blend every fragment. -/
def execBlendAll (s : State) : Host.Outcome State Fault Refusal :=
  edgeUnder (fun c => { c with applies := blendAlways }) s

/-- `BLEND.PABE` (R193): blend only fragments with alpha bit 7 set. -/
def execBlendPabe (s : State) : Host.Outcome State Fault Refusal :=
  edgeUnder (fun c => { c with applies := blendPerPixel }) s

/-- `A.SRC` (R194): operand A = SRC. -/
def execASrc (s : State) : Host.Outcome State Fault Refusal :=
  edgeUnder (fun c => { c with operandA := .source }) s

/-- `A.FB` (R195): operand A = FB. -/
def execAFb (s : State) : Host.Outcome State Fault Refusal :=
  edgeUnder (fun c => { c with operandA := .framebuffer }) s

/-- `A.ZERO` (R196): operand A = ZERO. -/
def execAZero (s : State) : Host.Outcome State Fault Refusal :=
  edgeUnder (fun c => { c with operandA := .zero }) s

/-- `A.RSVD` (R197): reserved value, acts as zero. -/
def execARsvd (s : State) : Host.Outcome State Fault Refusal :=
  edgeUnder (fun c => { c with operandA := .zero }) s

/-- `B.SRC` (R198): operand B = SRC. -/
def execBSrc (s : State) : Host.Outcome State Fault Refusal :=
  edgeUnder (fun c => { c with operandB := .source }) s

/-- `B.FB` (R199): operand B = FB. -/
def execBFb (s : State) : Host.Outcome State Fault Refusal :=
  edgeUnder (fun c => { c with operandB := .framebuffer }) s

/-- `B.ZERO` (R200): operand B = ZERO. -/
def execBZero (s : State) : Host.Outcome State Fault Refusal :=
  edgeUnder (fun c => { c with operandB := .zero }) s

/-- `B.RSVD` (R201): reserved value, acts as zero. -/
def execBRsvd (s : State) : Host.Outcome State Fault Refusal :=
  edgeUnder (fun c => { c with operandB := .zero }) s

/-- `C.AS` (R202): operand C = AS. -/
def execCAs (s : State) : Host.Outcome State Fault Refusal :=
  edgeUnder (fun c => { c with operandC := .sourceAlpha }) s

/-- `C.AD` (R203): operand C = AD. -/
def execCAd (s : State) : Host.Outcome State Fault Refusal :=
  edgeUnder (fun c => { c with operandC := .framebufferAlpha }) s

/-- `C.FIX` (R204): operand C = FIX. -/
def execCFix (fix : BitVec 8) (s : State) : Host.Outcome State Fault Refusal :=
  edgeUnder (fun c => { c with operandC := .fixed, fix := fix }) s

/-- `C.RSVD` (R205): reserved value, acts as FIX. -/
def execCRsvd (fix : BitVec 8) (s : State) : Host.Outcome State Fault Refusal :=
  edgeUnder (fun c => { c with operandC := .fixed, fix := fix }) s

/-- `D.SRC` (R206): operand D = SRC. -/
def execDSrc (s : State) : Host.Outcome State Fault Refusal :=
  edgeUnder (fun c => { c with operandD := .source }) s

/-- `D.FB` (R207): operand D = FB. -/
def execDFb (s : State) : Host.Outcome State Fault Refusal :=
  edgeUnder (fun c => { c with operandD := .framebuffer }) s

/-- `D.ZERO` (R208): operand D = ZERO. -/
def execDZero (s : State) : Host.Outcome State Fault Refusal :=
  edgeUnder (fun c => { c with operandD := .zero }) s

/-- `D.RSVD` (R209): reserved value, acts as zero. -/
def execDRsvd (s : State) : Host.Outcome State Fault Refusal :=
  edgeUnder (fun c => { c with operandD := .zero }) s

end Sys2Proof.Machine
end

