-- ==== Sys2Proof/Machine/AlphaTest.lean ====
section
/-! DEFINITION. Stage 1, AlphaTest: the operations of the groups AT and AFAIL (41_alpha_test.md).

The meaning of an operation is the clock edge (40_pipeline.md R133, 70_reset_and_hazards.md R270) with
that operation in force for its group and the operations of `CFG` for the other eleven. -/

namespace Sys2Proof.Machine

/-- `AT.OFF` (R151): alpha test disabled: result pass. -/
def execAtOff (s : State) : Host.Outcome State Fault Refusal :=
  edgeUnder (fun c => { c with alphaResult := alphaOff }) s

/-- `AT.NEVER` (R152): alpha test NEVER. -/
def execAtNever (s : State) : Host.Outcome State Fault Refusal :=
  edgeUnder (fun c => { c with alphaResult := alphaNever }) s

/-- `AT.ALWAYS` (R153): alpha test ALWAYS. -/
def execAtAlways (s : State) : Host.Outcome State Fault Refusal :=
  edgeUnder (fun c => { c with alphaResult := alphaAlways }) s

/-- `AT.LESS` (R154): alpha test LESS. -/
def execAtLess (aref : BitVec 8) (s : State) : Host.Outcome State Fault Refusal :=
  edgeUnder (fun c => { c with alphaResult := alphaLess aref }) s

/-- `AT.LEQUAL` (R155): alpha test LEQUAL. -/
def execAtLequal (aref : BitVec 8) (s : State) : Host.Outcome State Fault Refusal :=
  edgeUnder (fun c => { c with alphaResult := alphaLequal aref }) s

/-- `AT.EQUAL` (R156): alpha test EQUAL. -/
def execAtEqual (aref : BitVec 8) (s : State) : Host.Outcome State Fault Refusal :=
  edgeUnder (fun c => { c with alphaResult := alphaEqual aref }) s

/-- `AT.GEQUAL` (R157): alpha test GEQUAL. -/
def execAtGequal (aref : BitVec 8) (s : State) : Host.Outcome State Fault Refusal :=
  edgeUnder (fun c => { c with alphaResult := alphaGequal aref }) s

/-- `AT.GREATER` (R158): alpha test GREATER. -/
def execAtGreater (aref : BitVec 8) (s : State) : Host.Outcome State Fault Refusal :=
  edgeUnder (fun c => { c with alphaResult := alphaGreater aref }) s

/-- `AT.NOTEQUAL` (R159): alpha test NOTEQUAL. -/
def execAtNotequal (aref : BitVec 8) (s : State) : Host.Outcome State Fault Refusal :=
  edgeUnder (fun c => { c with alphaResult := alphaNotequal aref }) s

/-- `AFAIL.KEEP` (R160): alpha fail-mode KEEP. -/
def execAfailKeep (s : State) : Host.Outcome State Fault Refusal :=
  edgeUnder (fun c => { c with gates := gatesKeep }) s

/-- `AFAIL.FB_ONLY` (R161): alpha fail-mode FB_ONLY. -/
def execAfailFbOnly (s : State) : Host.Outcome State Fault Refusal :=
  edgeUnder (fun c => { c with gates := gatesFbOnly }) s

/-- `AFAIL.ZB_ONLY` (R162): alpha fail-mode ZB_ONLY. -/
def execAfailZbOnly (s : State) : Host.Outcome State Fault Refusal :=
  edgeUnder (fun c => { c with gates := gatesZbOnly }) s

/-- `AFAIL.RGB_ONLY` (R163): alpha fail-mode RGB_ONLY. -/
def execAfailRgbOnly (fbpsm : BitVec 6) (s : State) : Host.Outcome State Fault Refusal :=
  edgeUnder (fun c => { c with gates := gatesRgbOnly fbpsm }) s

end Sys2Proof.Machine
end

