-- ==== Sys2Proof/Machine/Clamp.lean ====
section
/-! DEFINITION. Stage 6, Clamp: the operations of the groups CLAMP and FBA (46_clamp.md).

The meaning of an operation is the clock edge (40_pipeline.md R133, 70_reset_and_hazards.md R270) with
that operation in force for its group and the operations of `CFG` for the other eleven. -/

namespace Sys2Proof.Machine

/-- `CLAMP.MASK` (R232): keep low 8 bits. -/
def execClampMask (s : State) : Host.Outcome State Fault Refusal :=
  edgeUnder (fun c => { c with clamp := clampMask }) s

/-- `CLAMP.CLAMP` (R231): saturate above 255. -/
def execClampClamp (s : State) : Host.Outcome State Fault Refusal :=
  edgeUnder (fun c => { c with clamp := clampSaturate }) s

/-- `FBA.0` (R233): alpha bit 7 forced to 0. -/
def execFba0 (s : State) : Host.Outcome State Fault Refusal :=
  edgeUnder (fun c => { c with alphaBit := false }) s

/-- `FBA.1` (R234): alpha bit 7 forced to 1. -/
def execFba1 (s : State) : Host.Outcome State Fault Refusal :=
  edgeUnder (fun c => { c with alphaBit := true }) s

end Sys2Proof.Machine
end

