-- ==== Sys2Proof/Machine/DepthTest.lean ====
section
/-! DEFINITION. Stage 3, ZTest: the operations of the group ZT (43_ztest.md).

The meaning of an operation is the clock edge (40_pipeline.md R133, 70_reset_and_hazards.md R270) with
that operation in force for its group and the operations of `CFG` for the other eleven. -/

namespace Sys2Proof.Machine

/-- `ZT.OFF` (R182): depth test disabled. -/
def execZtOff (s : State) : Host.Outcome State Fault Refusal :=
  edgeUnder (fun c => { c with depthResult := depthOff }) s

/-- `ZT.NEVER` (R183): depth test NEVER. -/
def execZtNever (s : State) : Host.Outcome State Fault Refusal :=
  edgeUnder (fun c => { c with depthResult := depthNever }) s

/-- `ZT.ALWAYS` (R184): depth test ALWAYS. -/
def execZtAlways (s : State) : Host.Outcome State Fault Refusal :=
  edgeUnder (fun c => { c with depthResult := depthAlways }) s

/-- `ZT.GEQUAL` (R185): depth test GEQUAL. -/
def execZtGequal (s : State) : Host.Outcome State Fault Refusal :=
  edgeUnder (fun c => { c with depthResult := depthGequal }) s

/-- `ZT.GREATER` (R186): depth test GREATER. -/
def execZtGreater (s : State) : Host.Outcome State Fault Refusal :=
  edgeUnder (fun c => { c with depthResult := depthGreater }) s

end Sys2Proof.Machine
end

