-- ==== Sys2Proof/Machine/Dither.lean ====
section
/-! DEFINITION. Stage 5, Dither: the operations of the group DTH (45_dither.md).

The meaning of an operation is the clock edge (40_pipeline.md R133, 70_reset_and_hazards.md R270) with
that operation in force for its group and the operations of `CFG` for the other eleven. -/

namespace Sys2Proof.Machine

/-- `DTH.OFF` (R223): dither disabled. -/
def execDthOff (s : State) : Host.Outcome State Fault Refusal :=
  edgeUnder (fun c => { c with dither := ditherCopy }) s

/-- `DTH.ON` (R224): dither enabled. -/
def execDthOn (dimx : BitVec 64) (s : State) : Host.Outcome State Fault Refusal :=
  edgeUnder (fun c => { c with dither := ditherAdd dimx }) s

end Sys2Proof.Machine
end

