-- ==== Sys2Proof/Machine/DstAlphaTest.lean ====
section
/-! DEFINITION. Stage 2, DestinationAlphaTest: the operations of the group DAT (42_dst_alpha_test.md).

The meaning of an operation is the clock edge (40_pipeline.md R133, 70_reset_and_hazards.md R270) with
that operation in force for its group and the operations of `CFG` for the other eleven. -/

namespace Sys2Proof.Machine

/-- `DAT.OFF` (R171): destination alpha test disabled. -/
def execDatOff (s : State) : Host.Outcome State Fault Refusal :=
  edgeUnder (fun c => { c with dstResult := dstOff }) s

/-- `DAT.EXPECT0` (R174): pass when alpha bit 7 is 0. -/
def execDatExpect0 (fbpsm : BitVec 6) (s : State) : Host.Outcome State Fault Refusal :=
  edgeUnder (fun c => { c with dstResult := dstExpect0 fbpsm }) s

/-- `DAT.EXPECT1` (R175): pass when alpha bit 7 is 1. -/
def execDatExpect1 (fbpsm : BitVec 6) (s : State) : Host.Outcome State Fault Refusal :=
  edgeUnder (fun c => { c with dstResult := dstExpect1 fbpsm }) s

end Sys2Proof.Machine
end

