-- ==== Sys2Proof/Machine/Dispatch.lean ====
section
/-! DEFINITION. The dispatch of an operation to its meaning. -/

namespace Sys2Proof.Machine

-- One clock edge with the operation in force for its group (30_encoding.md R91, 40_pipeline.md R133).
def exec (i : Instr) (s : State) : Host.Outcome State Fault Refusal :=
  match i with
  | .atOff => Sys2Proof.Machine.execAtOff s
  | .atNever => Sys2Proof.Machine.execAtNever s
  | .atAlways => Sys2Proof.Machine.execAtAlways s
  | .atLess aref => Sys2Proof.Machine.execAtLess aref s
  | .atLequal aref => Sys2Proof.Machine.execAtLequal aref s
  | .atEqual aref => Sys2Proof.Machine.execAtEqual aref s
  | .atGequal aref => Sys2Proof.Machine.execAtGequal aref s
  | .atGreater aref => Sys2Proof.Machine.execAtGreater aref s
  | .atNotequal aref => Sys2Proof.Machine.execAtNotequal aref s
  | .afailKeep => Sys2Proof.Machine.execAfailKeep s
  | .afailFbOnly => Sys2Proof.Machine.execAfailFbOnly s
  | .afailZbOnly => Sys2Proof.Machine.execAfailZbOnly s
  | .afailRgbOnly fbpsm => Sys2Proof.Machine.execAfailRgbOnly fbpsm s
  | .datOff => Sys2Proof.Machine.execDatOff s
  | .datExpect0 fbpsm => Sys2Proof.Machine.execDatExpect0 fbpsm s
  | .datExpect1 fbpsm => Sys2Proof.Machine.execDatExpect1 fbpsm s
  | .ztOff => Sys2Proof.Machine.execZtOff s
  | .ztNever => Sys2Proof.Machine.execZtNever s
  | .ztAlways => Sys2Proof.Machine.execZtAlways s
  | .ztGequal => Sys2Proof.Machine.execZtGequal s
  | .ztGreater => Sys2Proof.Machine.execZtGreater s
  | .blendOff => Sys2Proof.Machine.execBlendOff s
  | .blendAll => Sys2Proof.Machine.execBlendAll s
  | .blendPabe => Sys2Proof.Machine.execBlendPabe s
  | .aSrc => Sys2Proof.Machine.execASrc s
  | .aFb => Sys2Proof.Machine.execAFb s
  | .aZero => Sys2Proof.Machine.execAZero s
  | .aRsvd => Sys2Proof.Machine.execARsvd s
  | .bSrc => Sys2Proof.Machine.execBSrc s
  | .bFb => Sys2Proof.Machine.execBFb s
  | .bZero => Sys2Proof.Machine.execBZero s
  | .bRsvd => Sys2Proof.Machine.execBRsvd s
  | .cAs => Sys2Proof.Machine.execCAs s
  | .cAd => Sys2Proof.Machine.execCAd s
  | .cFix fix => Sys2Proof.Machine.execCFix fix s
  | .cRsvd fix => Sys2Proof.Machine.execCRsvd fix s
  | .dSrc => Sys2Proof.Machine.execDSrc s
  | .dFb => Sys2Proof.Machine.execDFb s
  | .dZero => Sys2Proof.Machine.execDZero s
  | .dRsvd => Sys2Proof.Machine.execDRsvd s
  | .dthOff => Sys2Proof.Machine.execDthOff s
  | .dthOn dimx => Sys2Proof.Machine.execDthOn dimx s
  | .clampMask => Sys2Proof.Machine.execClampMask s
  | .clampClamp => Sys2Proof.Machine.execClampClamp s
  | .fba0 => Sys2Proof.Machine.execFba0 s
  | .fba1 => Sys2Proof.Machine.execFba1 s

end Sys2Proof.Machine
end

