-- ==== Sys2Proof/Machine/Step.lean ====
section
/-! DEFINITION. One step of the machine: the rising edge of `clk` (40_pipeline.md R133). -/

namespace Sys2Proof.Machine

/-- One clock edge: the operation the configuration word is read as is run. It runs the whole edge, the
other eleven operations of the word with it, and whichever of the twelve is taken the edge is the same
(`Obligations.StepRunsEverySelectedOperation`; log entry 4). -/
def step (s : State) : Host.Outcome State Fault Refusal :=
  match namedOperation Config.cfgWidth s.cfg with
  | some i => exec i s
  | none => .refused .noOperation

/-- `s` with the word `w` of `nbits` bits where the step fetches its operations, the latch `CFG`, and
`rst` low in the coming step (log entry 6). -/
def State.withFetchWord (s : State) (nbits w : Nat) : State :=
  s.withWord (BitVec.ofNat Config.cfgWidth (w % 2 ^ nbits))

end Sys2Proof.Machine
end

