-- ==== Sys2Proof/Safety.lean ====
section
/-! DEFINITION. The terms in which claims about runs are stated: bubbles and live fragments
(00_scope.md R14), the drained state (70_reset_and_hazards.md R276), and the environment's duties
(R277, R278). -/

namespace Sys2Proof.Safety

open Sys2Proof.Machine

/-- A bubble: a fragment with all three flags false (00_scope.md R14). -/
def bubble {n : Nat} (f : Frag n) : Bool := !f.wc && !f.wa && !f.wz

/-- A live fragment: one with a flag true (00_scope.md R14). -/
def live {n : Nat} (f : Frag n) : Bool := !bubble f

/-- Every stage register of the lane holds a bubble (70_reset_and_hazards.md R276). -/
def laneDrained (l : Lane) : Bool :=
  bubble l.s1 && bubble l.s2 && bubble l.s3 && bubble l.s4 && bubble l.s5 && bubble l.s6

/-- The drained state: every stage register of every lane holds a bubble (70_reset_and_hazards.md
R276). It does not imply that a load keeps the duty `loadDuty`: log entry 22. -/
def drained (s : State) : Bool := s.lanes.all laneDrained

/-- Every lane is presented a bubble in the step. -/
def bubblesIn (p : Ports) : Bool := p.lanes.all fun q => bubble q.fragIn

/-- The environment presents only bubbles from now on. Resets and loads are allowed. -/
def quiet (s : State) : Bool := s.env.all bubblesIn

/-- The step's load, if there is one, presents the configuration already held. -/
def keepsCfg (cfg : CfgWord) (p : Ports) : Bool := !p.cfgLoad || p.cfgData == cfg

/-- The duty of configuration stability (70_reset_and_hazards.md R278) over a script without reset:
"a CFG_LOAD that changes `CFG` may be performed during step n only if no live fragment was presented
during steps n − 4 to n". `since` counts the steps since the last one in which a live fragment was
presented, up to and with the step before the script's first.

DESIGN CHOICE, log entry 22: R276 says that a load in a step that begins drained, with bubbles presented,
always satisfies R278. By R278's own words it does not where a test has killed a fragment that was live
when it was presented, less than five steps before. The duty here counts as R278 does. -/
def loadDuty (since : Nat) (cfg : CfgWord) : List Ports → Bool
  | [] => true
  | p :: ps =>
    let since' := if bubblesIn p then since + 1 else 0
    !p.rst && (keepsCfg cfg p || decide (5 ≤ since')) && loadDuty since' (loadedCfg p cfg) ps

/-- Each flag of `f` implies the same flag of `g` (10_state.md R35). -/
def flagsWithin {m n : Nat} (f : Frag m) (g : Frag n) : Prop :=
  (f.wc = true → g.wc = true) ∧ (f.wa = true → g.wa = true) ∧ (f.wz = true → g.wz = true)

/-- Two fragments with the same flags. -/
def sameFlags {m n : Nat} (f : Frag m) (g : Frag n) : Prop :=
  f.wc = g.wc ∧ f.wa = g.wa ∧ f.wz = g.wz

/-- Two fragments with the same position, depth and alpha. -/
def samePlace {m n : Nat} (f : Frag m) (g : Frag n) : Prop :=
  f.x = g.x ∧ f.y = g.y ∧ f.z = g.z ∧ f.a = g.a

/-- Two fragments with the same color. -/
def sameColor {n : Nat} (f g : Frag n) : Prop := f.r = g.r ∧ f.g = g.g ∧ f.b = g.b

/-- The block as lane `l` alone sees it: its own registers and ports, with the shared configuration,
reset and parameters (47_array_and_config_load.md R241). -/
def onlyLane (l : Nat) (s : State) : State where
  lanes := s.lanes[l]?.toList
  cfg := s.cfg
  env := s.env.map fun p => { p with lanes := [p.lane l] }
  params := s.params

/-! ### Words in which results are stated -/

/-- The blend equation on integers, the division rounding toward minus infinity (44_alpha_blend.md R210,
R212): stated apart from the model's `blend`. -/
def equation (a b c d : Int) : U9 := BitVec.ofInt 9 (((a - b) * c).fdiv 128 + d)

/-- The AlphaBlend output whose channels are computed by `ch` from the source and the framebuffer
channel, every other field copied (40_pipeline.md R132). -/
def withChannels (f : Frag8) (fb : FbSample) (ch : U8 → U8 → U9) : Frag9 where
  x := f.x
  y := f.y
  z := f.z
  r := ch f.r fb.r
  g := ch f.g fb.g
  b := ch f.b fb.b
  a := f.a
  wc := f.wc
  wa := f.wa
  wz := f.wz

/-- The fragment with each channel mapped by `ch`, every other field copied. -/
def mapChannels {m n : Nat} (ch : BitVec m → BitVec n) (f : Frag m) : Frag n where
  x := f.x
  y := f.y
  z := f.z
  r := ch f.r
  g := ch f.g
  b := ch f.b
  a := f.a
  wc := f.wc
  wa := f.wa
  wz := f.wz

/-- The bits of `CFG` that belong to a group: its selecting fields and the operand fields only it reads
(10_state.md R43). FBPSM, which AFAIL and DAT share, belongs to neither. -/
def groupBits : Group → CfgWord
  | .alphaTest => 0xFFF
  | .alphaFail => 0x3000
  | .dstTest => 0xC000
  | .depthTest => 0x70000
  | .blend => 0x180000
  | .operandA => 0x600000
  | .operandB => 0x1800000
  | .operandC => 0x1FE6000000
  | .operandD => 0x18000000
  | .dither => 0xFFFFFFFFFFFFFFFF0000002000000000
  | .clamp => 0x4000000000
  | .alphaFix => 0x8000000000

/-- The word `w` with the operation `i` in its group's place. -/
def patched (i : Instr) (w : CfgWord) : CfgWord := encode i ||| (w &&& ~~~groupBits i.group)

/-- The bits no stage reads: the reserved bits [63:50], ZPSM [49:46], and bit 3 of each dither cell
(30_encoding.md R110, 10_state.md R46). -/
def unreadBits : CfgWord := 0x8888888888888888FFFFC00000000000

end Sys2Proof.Safety
end

