-- ==== Sys2Proof/Certificates/Slice0/Obligations.lean ====
section
/-! DEFINITION. The statements about the model, for the provers. Each docstring names the rule of spec/
that it formalises. `exec i s = .next (s.advance …)` says that the operation completes, what each stage
register of each lane becomes (registers not named take what the bare core of R244 gives them under the
held configuration), what `CFG` becomes (R243) and that one step of the environment's script is used. -/

open Sys2Proof Sys2Proof.Machine Sys2Proof.Safety

/-! ### The machine as a whole -/

/-- R91, R133: the word in `CFG` selects twelve operations; a step is the clock edge of each of them. That
a step is a clock edge is the spec's decision D1, that an operation stands for the whole edge the
model's choice (log entry 4). -/
def Obligations.StepRunsEverySelectedOperation : Prop :=
  ∀ (s : State) (i : Instr), i ∈ decodeOps s.cfg → step s = exec i s

/-- R250: the step is total; it never faults and is never refused. -/
def Obligations.StepAlwaysGivesANextState : Prop :=
  ∀ s : State, ∃ t, step s = .next t

/-- R133, R241, R243: with `rst` low all six stage registers of every lane are written at once from
values held at the start of the step, under the configuration held at the start of the step. The clock
edge and the latch are the spec's own decisions D1 and D21. No step changes the parameters (log entry
10). -/
def Obligations.StepWritesAllStageRegisters : Prop :=
  ∀ s : State, s.ports.rst = false → ∃ t, step s = .next t ∧
    t.lanes.length = s.lanes.length ∧
    (∀ l lane, s.lanes[l]? = some lane → t.lanes[l]? = some (Lane.mk
      (alphaTest s.cfg (s.ports.lane l).fragIn)
      (dstAlphaTest s.cfg lane.s1)
      (zTest s.cfg (s.ports.lane l).zrefIn lane.s2)
      (alphaBlend s.cfg (s.ports.lane l).fbIn lane.s3)
      (dither s.params s.cfg lane.s4)
      (clamp s.cfg lane.s5))) ∧
    t.cfg = (if s.ports.cfgLoad then s.ports.cfgData else s.cfg) ∧
    t.env = s.env.tail ∧ t.params = s.params

/-- R270: with `rst` high the edge clears every stage register of every lane and `CFG`, in place of the
step and of any CFG_LOAD, whatever operation is in force. The spec's own decision D2. -/
def Obligations.ResetEdgeClearsEverything : Prop :=
  ∀ s : State, s.ports.rst = true →
    step s = .next ⟨List.replicate s.lanes.length {}, 0, s.env.tail, s.params⟩ ∧
    ∀ i : Instr, exec i s = .next ⟨List.replicate s.lanes.length {}, 0, s.env.tail, s.params⟩

/-- R58: the state after reset, for every value of the parameters and every number of lanes, and what the
reset configuration does to a fragment. The spec's own decision D27 (log entry 7). The machine that runs
from reset has DITHER_COORD_LSB = 4, the value the spec decides (R7, D17; log entry 10), and one lane
(R7; log entry 3). -/
def Obligations.ResetStateAndResetPass : Prop :=
  (∀ prm n, (State.resetWide prm n).cfg = 0 ∧ (State.resetWide prm n).lanes.length = n ∧
    (State.resetWide prm n).params = prm ∧
    ∀ lane ∈ (State.resetWide prm n).lanes,
      lane.s1 = ⟨0, 0, 0, 0, 0, 0, 0, false, false, false⟩ ∧
      lane.s2 = ⟨0, 0, 0, 0, 0, 0, 0, false, false, false⟩ ∧
      lane.s3 = ⟨0, 0, 0, 0, 0, 0, 0, false, false, false⟩ ∧
      lane.s4 = ⟨0, 0, 0, 0, 0, 0, 0, false, false, false⟩ ∧
      lane.s5 = ⟨0, 0, 0, 0, 0, 0, 0, false, false, false⟩ ∧
      lane.s6 = ⟨0, 0, 0, 0, 0, 0, 0, false, false, false⟩) ∧
  State.reset = State.resetWide ⟨4⟩ 1 ∧
  ∀ prm f zr fb, pipe prm 0 f zr fb = { f with a := f.a &&& 0x7F#8 }

/-- R243: a CFG_LOAD replaces all 128 bits in the step that the stages evaluate with the old
configuration; without one `CFG` keeps its value. The spec's own decision D21. -/
def Obligations.LoadReplacesTheConfigurationAfterTheStep : Prop :=
  ∀ s : State, s.ports.rst = false → ∃ t, step s = .next t ∧
    (∀ l lane, s.lanes[l]? = some lane →
      t.lanes[l]? = some (bareCore s.params s.cfg (s.ports.lane l) lane)) ∧
    (s.ports.cfgLoad = true → t.cfg = s.ports.cfgData) ∧
    (s.ports.cfgLoad = false → t.cfg = s.cfg)

/-- R240, R270: no clock edge changes the number of lanes (the spec's decision D22), nor the other
parameter (log entry 10); the environment's script moves on by one step (the model's choice, log entry
1). -/
def Obligations.EveryEdgeKeepsTheLanes : Prop :=
  ∀ (s t : State), step s = .next t → t.lanes.length = s.lanes.length ∧ t.env = s.env.tail ∧
    t.params = s.params

/-- The model's reading of "fetch" (log entries 5 and 6, DESIGN CHOICE): the word put where the step
fetches is the configuration word, one of the operations it selects is the one it is read as, and the
next step runs that one. That `rst` is low in a step the script does not reach is log entry 2. -/
def Obligations.FetchedWordIsRunByTheNextStep : Prop :=
  ∀ (s : State) (n w : Nat) (i : Instr), decodeTableWord n w = some i →
    (s.withFetchWord n w).cfg = BitVec.ofNat 128 w ∧
    (s.withFetchWord n w).ports.rst = false ∧
    (s.withFetchWord n w).params = s.params ∧
    i ∈ decodeOps (s.withFetchWord n w).cfg ∧
    step (s.withFetchWord n w) = exec i (s.withFetchWord n w)

/-! ### Encoding -/

/-- R116: a word selects exactly one row of each group, hence a complete selection. The table is the
spec's own (decisions D7, D31). -/
def Obligations.EachGroupSelectsExactlyOneRow : Prop :=
  ∀ w : CfgWord, (∀ g : Group, ((rows g).filter (·.selects w)).length = 1) ∧
    wellFormedSelection (decodeOps w) = true

/-- R116: the word of an operation, with every operand at every value, decodes to that operation. The
table is the spec's own (decisions D7, D31). -/
def Obligations.DecodeOfEncodeIsTheOperation : Prop :=
  ∀ i : Instr, decodeGroup i.group (encode i) = some i

/-- R118: a list of operations means the word whose groups take the named operations and whose other
groups take their all-zero operation. The notation is the spec's own (decision D31). -/
def Obligations.OperationListMeansItsWord : Prop :=
  ∀ ops : List Instr, wellFormedOps ops = true →
    (∀ i ∈ ops, decodeGroup i.group (encodeOps ops) = some i) ∧
    (∀ g : Group, (∀ i ∈ ops, i.group ≠ g) →
      decodeGroup g (encodeOps ops) = decodeGroup g 0)

/-- R43, R92 (decision D7): packing and unpacking the fields of `CFG` are inverse to each other; no bit is dropped. -/
def Obligations.CfgFieldsAndWordAgree : Prop :=
  (∀ f : CfgFields, unpackCfg (packCfg f) = f) ∧ (∀ w : CfgWord, packCfg (unpackCfg w) = w)

/-- R93 (decision D3): the packed forms of the records lose nothing. -/
def Obligations.PackedRecordsAgree : Prop :=
  (∀ f, unpackFrag8 (packFrag8 f) = f) ∧ (∀ w, packFrag8 (unpackFrag8 w) = w) ∧
  (∀ f, unpackFrag9 (packFrag9 f) = f) ∧ (∀ w, packFrag9 (unpackFrag9 w) = w) ∧
  (∀ s, unpackFb (packFb s) = s) ∧ (∀ w, packFb (unpackFb w) = w)

/-- 95_test_vectors.md E1 and E2: words written out there decode as it says. -/
def Obligations.WrittenWordsDecode : Prop :=
  decodeOps 0x040B#128 =
    [.atGequal 0x40, .afailKeep, .datOff, .ztOff, .blendOff, .aSrc, .bSrc, .cAs, .dSrc,
     .dthOff, .clampMask, .fba0] ∧
  decodeOps 0x0005F20D#128 =
    [.atGreater 0x20, .afailRgbOnly 0, .datExpect1 0, .ztGequal, .blendOff, .aSrc, .bSrc, .cAs, .dSrc,
     .dthOff, .clampMask, .fba0] ∧
  decodeOps 0x172635044053627100024267893F6A5B#128 =
    [.atGequal 0xA5, .afailZbOnly, .datExpect0 2, .ztGreater, .blendPabe, .aFb, .bZero, .cAs, .dFb,
     .dthOn 0x1726350440536271, .clampClamp, .fba0] ∧
  decodeOps (BitVec.allOnes 128) =
    [.atNotequal 0xFF, .afailRgbOnly 63, .datExpect1 63, .ztGreater, .blendPabe, .aRsvd, .bRsvd,
     .cRsvd 0xFF, .dRsvd, .dthOn (BitVec.allOnes 64), .clampClamp, .fba1]

/-- R91, R110, R113 (the spec's own decisions and inferences D20, D31): the twelve operations a word selects, with their operands, decide everything a
lane does; the bits they do not carry are read by nothing. -/
def Obligations.SelectedOperationsDecideTheStep : Prop :=
  ∀ (prm : Params) (w : CfgWord) (p : LanePorts) (lane : Lane),
    bareCore prm (encodeOps (decodeOps w)) p lane = bareCore prm w p lane

/-- R91, R116, R133 (log entry 4): the meaning of every operation is the clock edge under the configuration with the
operation's own bits in its group's place. FBPSM is one field for AFAIL and DAT, hence the premise. -/
def Obligations.EveryOperationIsItsWordInTheConfiguration : Prop :=
  ∀ (i : Instr) (s : State), (∀ f, i.format? = some f → f = (unpackCfg s.cfg).fbpsm) →
    exec i s = .next (s.clockEdge (bareCore s.params (patched i s.cfg)))

/-- R110 (the spec's own decision D20), R46: reserved bits and ZPSM have no effect. -/
def Obligations.ReservedBitsAndZpsmAreIgnored : Prop :=
  ∀ (v w : CfgWord), v &&& ~~~unreadBits = w &&& ~~~unreadBits →
    ∀ (prm : Params) (p : LanePorts) (lane : Lane), bareCore prm v p lane = bareCore prm w p lane

/-- R113, the spec's own inference: the mode and reference fields of a disabled test, blend or dither are
ignored. -/
def Obligations.FieldsOfDisabledUnitsAreIgnored : Prop :=
  ∀ (prm : Params) (f : CfgFields) (p : LanePorts) (lane : Lane),
    let run := fun (g : CfgFields) => bareCore prm (packCfg g) p lane
    (f.ate = false → ∀ m r e, run { f with atst := m, aref := r, afail := e } = run f) ∧
    (f.date = false → ∀ m, run { f with datm := m } = run f) ∧
    (f.zte = false → ∀ m, run { f with ztst := m } = run f) ∧
    (f.abe = false → ∀ q a b c d x,
      run { f with pabe := q, a := a, b := b, c := c, d := d, fix := x } = run f) ∧
    (f.dthe = false → ∀ m, run { f with dimx := m } = run f)

/-! ### Stage 1: AT and AFAIL -/

/-- R151, R152, R153: AT.OFF, AT.NEVER, AT.ALWAYS. -/
def Obligations.AlphaTestOffNeverAlways : Prop :=
  (∀ w, decodeGroup .alphaTest w = some .atOff ↔ w &&& 0x1#128 = 0x0#128) ∧
  (∀ w, decodeGroup .alphaTest w = some .atNever ↔ w &&& 0xF#128 = 0x1#128) ∧
  (∀ w, decodeGroup .alphaTest w = some .atAlways ↔ w &&& 0xF#128 = 0x3#128) ∧
  ∀ s : State, s.ports.rst = false →
    exec .atOff s = .next (s.advance fun p l => { bareCore s.params s.cfg p l with s1 := p.fragIn }) ∧
    exec .atAlways s = .next (s.advance fun p l => { bareCore s.params s.cfg p l with s1 := p.fragIn }) ∧
    exec .atNever s = .next (s.advance fun p l => { bareCore s.params s.cfg p l with
      s1 := p.fragIn.gateSelected (gatesOf (unpackCfg s.cfg)) false })

/-- R154 to R159, R168: the six unsigned comparisons of the alpha test. -/
def Obligations.AlphaTestComparisons : Prop :=
  (∀ w r, decodeGroup .alphaTest w = some (.atLess r) ↔
    w &&& 0xF#128 = 0x5#128 ∧ r = w.extractLsb' 4 8) ∧
  (∀ w r, decodeGroup .alphaTest w = some (.atLequal r) ↔
    w &&& 0xF#128 = 0x7#128 ∧ r = w.extractLsb' 4 8) ∧
  (∀ w r, decodeGroup .alphaTest w = some (.atEqual r) ↔
    w &&& 0xF#128 = 0x9#128 ∧ r = w.extractLsb' 4 8) ∧
  (∀ w r, decodeGroup .alphaTest w = some (.atGequal r) ↔
    w &&& 0xF#128 = 0xB#128 ∧ r = w.extractLsb' 4 8) ∧
  (∀ w r, decodeGroup .alphaTest w = some (.atGreater r) ↔
    w &&& 0xF#128 = 0xD#128 ∧ r = w.extractLsb' 4 8) ∧
  (∀ w r, decodeGroup .alphaTest w = some (.atNotequal r) ↔
    w &&& 0xF#128 = 0xF#128 ∧ r = w.extractLsb' 4 8) ∧
  ∀ (r : U8) (s : State), s.ports.rst = false →
    let gated := fun (ta : Nat → Bool) => s.advance fun p l => { bareCore s.params s.cfg p l with
      s1 := p.fragIn.gateSelected (gatesOf (unpackCfg s.cfg)) (ta p.fragIn.a.toNat) }
    exec (.atLess r) s = .next (gated fun a => decide (a < r.toNat)) ∧
    exec (.atLequal r) s = .next (gated fun a => decide (a ≤ r.toNat)) ∧
    exec (.atEqual r) s = .next (gated fun a => decide (a = r.toNat)) ∧
    exec (.atGequal r) s = .next (gated fun a => decide (r.toNat ≤ a)) ∧
    exec (.atGreater r) s = .next (gated fun a => decide (r.toNat < a)) ∧
    exec (.atNotequal r) s = .next (gated fun a => decide (a ≠ r.toNat))

/-- R160 to R163: the four fail-modes, flag by flag, with the test result of the AT group. That FBPSM =
0 is the 32-bit RGBA layout is the spec's own decision D19 (log entry 21). -/
def Obligations.AlphaFailModes : Prop :=
  (∀ w, decodeGroup .alphaFail w = some .afailKeep ↔ w &&& 0x3000#128 = 0x0#128) ∧
  (∀ w, decodeGroup .alphaFail w = some .afailFbOnly ↔ w &&& 0x3000#128 = 0x1000#128) ∧
  (∀ w, decodeGroup .alphaFail w = some .afailZbOnly ↔ w &&& 0x3000#128 = 0x2000#128) ∧
  (∀ w m, decodeGroup .alphaFail w = some (.afailRgbOnly m) ↔
    w &&& 0x3000#128 = 0x3000#128 ∧ m = w.extractLsb' 40 6) ∧
  ∀ (m : BitVec 6) (s : State), s.ports.rst = false →
    let ta := alphaResultOf (unpackCfg s.cfg)
    let put := fun (g : Frag8 → Frag8) => s.advance fun p l => { bareCore s.params s.cfg p l with
      s1 := g p.fragIn }
    exec .afailKeep s = .next (put fun f =>
      { f with wc := f.wc && ta f.a, wa := f.wa && ta f.a, wz := f.wz && ta f.a }) ∧
    exec .afailFbOnly s = .next (put fun f => { f with wz := f.wz && ta f.a }) ∧
    exec .afailZbOnly s = .next (put fun f =>
      { f with wc := f.wc && ta f.a, wa := f.wa && ta f.a }) ∧
    exec (.afailRgbOnly m) s = .next (put fun f =>
      if m = 0 then { f with wa := f.wa && ta f.a, wz := f.wz && ta f.a }
      else { f with wz := f.wz && ta f.a })

/-! ### Stage 2: DAT -/

/-- R171 to R175: the destination alpha test, on the fragment's own alpha (90_conflicts.md C1, log entry
11). That equality passes is the spec's own decision D15. That FBPSM = 1 is the format without alpha is
its decision D19 (log entry 21). -/
def Obligations.DestinationAlphaTestOperations : Prop :=
  (∀ w, decodeGroup .dstTest w = some .datOff ↔ w &&& 0x4000#128 = 0x0#128) ∧
  (∀ w m, decodeGroup .dstTest w = some (.datExpect0 m) ↔
    w &&& 0xC000#128 = 0x4000#128 ∧ m = w.extractLsb' 40 6) ∧
  (∀ w m, decodeGroup .dstTest w = some (.datExpect1 m) ↔
    w &&& 0xC000#128 = 0xC000#128 ∧ m = w.extractLsb' 40 6) ∧
  ∀ (m : BitVec 6) (s : State), s.ports.rst = false →
    let gated := fun (td : Frag8 → Bool) => s.advance fun p l => { bareCore s.params s.cfg p l with
      s2 := { l.s1 with wc := l.s1.wc && td l.s1, wa := l.s1.wa && td l.s1, wz := l.s1.wz && td l.s1 } }
    exec .datOff s = .next (s.advance fun p l => { bareCore s.params s.cfg p l with s2 := l.s1 }) ∧
    exec (.datExpect0 m) s = .next (gated fun f => decide (m = 1 ∨ f.a.toNat ≤ 0x7F)) ∧
    exec (.datExpect1 m) s = .next (gated fun f => decide (m = 1 ∨ 0x80 ≤ f.a.toNat))

/-! ### Stage 3: ZT -/

/-- R182 to R187, R189: the depth test, an unsigned comparison that gates all three flags. -/
def Obligations.DepthTestOperations : Prop :=
  (∀ w, decodeGroup .depthTest w = some .ztOff ↔ w &&& 0x10000#128 = 0x0#128) ∧
  (∀ w, decodeGroup .depthTest w = some .ztNever ↔ w &&& 0x70000#128 = 0x10000#128) ∧
  (∀ w, decodeGroup .depthTest w = some .ztAlways ↔ w &&& 0x70000#128 = 0x30000#128) ∧
  (∀ w, decodeGroup .depthTest w = some .ztGequal ↔ w &&& 0x70000#128 = 0x50000#128) ∧
  (∀ w, decodeGroup .depthTest w = some .ztGreater ↔ w &&& 0x70000#128 = 0x70000#128) ∧
  ∀ s : State, s.ports.rst = false →
    let gated := fun (tz : Nat → Nat → Bool) => s.advance fun p l => { bareCore s.params s.cfg p l with
      s3 := { l.s2 with
        wc := l.s2.wc && tz l.s2.z.toNat p.zrefIn.toNat
        wa := l.s2.wa && tz l.s2.z.toNat p.zrefIn.toNat
        wz := l.s2.wz && tz l.s2.z.toNat p.zrefIn.toNat } }
    exec .ztOff s = .next (s.advance fun p l => { bareCore s.params s.cfg p l with s3 := l.s2 }) ∧
    exec .ztNever s = .next (s.advance fun p l => { bareCore s.params s.cfg p l with
      s3 := { l.s2 with wc := false, wa := false, wz := false } }) ∧
    exec .ztAlways s = .next (s.advance fun p l => { bareCore s.params s.cfg p l with s3 := l.s2 }) ∧
    exec .ztGequal s = .next (gated fun z ref => decide (ref ≤ z)) ∧
    exec .ztGreater s = .next (gated fun z ref => decide (ref < z))

/-! ### Stage 4: BLEND, A, B, C, D -/

/-- R191, R192, R193: when the blend equation applies, and what the stage writes when it does not. The
floor shift and the 9-bit wrap of the equation are the spec's own decisions D12 and D11 (log entries 8,
9). -/
def Obligations.BlendEnableOperations : Prop :=
  (∀ w, decodeGroup .blend w = some .blendOff ↔ w &&& 0x80000#128 = 0x0#128) ∧
  (∀ w, decodeGroup .blend w = some .blendAll ↔ w &&& 0x180000#128 = 0x80000#128) ∧
  (∀ w, decodeGroup .blend w = some .blendPabe ↔ w &&& 0x180000#128 = 0x180000#128) ∧
  ∀ s : State, s.ports.rst = false →
    let k := unpackCfg s.cfg
    let put := fun (applies : Frag8 → Bool) => s.advance fun p l => { bareCore s.params s.cfg p l with
      s4 := withChannels l.s3 p.fbIn fun src fb =>
        if applies l.s3 then equation (colorOf k.a src fb) (colorOf k.b src fb)
          (alphaOperandOf k l.s3.a p.fbIn.a) (colorOf k.d src fb)
        else src.setWidth 9 }
    exec .blendOff s = .next (s.advance fun p l => { bareCore s.params s.cfg p l with
      s4 := withChannels l.s3 p.fbIn fun src _ => src.setWidth 9 }) ∧
    exec .blendAll s = .next (put fun _ => true) ∧
    exec .blendPabe s = .next (put fun f => decide (0x80 ≤ f.a.toNat))

/-- R194 to R196: operand A. The floor shift and the 9-bit wrap of the equation are the spec's own
decisions D12 and D11 (log entries 8, 9). -/
def Obligations.BlendOperandA : Prop :=
  (∀ w, decodeGroup .operandA w = some .aSrc ↔ w &&& 0x600000#128 = 0x0#128) ∧
  (∀ w, decodeGroup .operandA w = some .aFb ↔ w &&& 0x600000#128 = 0x200000#128) ∧
  (∀ w, decodeGroup .operandA w = some .aZero ↔ w &&& 0x600000#128 = 0x400000#128) ∧
  ∀ s : State, s.ports.rst = false →
    let k := unpackCfg s.cfg
    let put := fun (sel : U8 → U8 → Int) => s.advance fun p l => { bareCore s.params s.cfg p l with
      s4 := withChannels l.s3 p.fbIn fun src fb =>
        if appliesOf k l.s3.a then equation (sel src fb) (colorOf k.b src fb)
          (alphaOperandOf k l.s3.a p.fbIn.a) (colorOf k.d src fb)
        else src.setWidth 9 }
    exec .aSrc s = .next (put fun src _ => src.toNat) ∧
    exec .aFb s = .next (put fun _ fb => fb.toNat) ∧
    exec .aZero s = .next (put fun _ _ => 0)

/-- R198 to R200: operand B. The floor shift and the 9-bit wrap of the equation are the spec's own
decisions D12 and D11 (log entries 8, 9). -/
def Obligations.BlendOperandB : Prop :=
  (∀ w, decodeGroup .operandB w = some .bSrc ↔ w &&& 0x1800000#128 = 0x0#128) ∧
  (∀ w, decodeGroup .operandB w = some .bFb ↔ w &&& 0x1800000#128 = 0x800000#128) ∧
  (∀ w, decodeGroup .operandB w = some .bZero ↔ w &&& 0x1800000#128 = 0x1000000#128) ∧
  ∀ s : State, s.ports.rst = false →
    let k := unpackCfg s.cfg
    let put := fun (sel : U8 → U8 → Int) => s.advance fun p l => { bareCore s.params s.cfg p l with
      s4 := withChannels l.s3 p.fbIn fun src fb =>
        if appliesOf k l.s3.a then equation (colorOf k.a src fb) (sel src fb)
          (alphaOperandOf k l.s3.a p.fbIn.a) (colorOf k.d src fb)
        else src.setWidth 9 }
    exec .bSrc s = .next (put fun src _ => src.toNat) ∧
    exec .bFb s = .next (put fun _ fb => fb.toNat) ∧
    exec .bZero s = .next (put fun _ _ => 0)

/-- R202 to R204: operand C. The floor shift and the 9-bit wrap of the equation are the spec's own
decisions D12 and D11 (log entries 8, 9). -/
def Obligations.BlendOperandC : Prop :=
  (∀ w, decodeGroup .operandC w = some .cAs ↔ w &&& 0x6000000#128 = 0x0#128) ∧
  (∀ w, decodeGroup .operandC w = some .cAd ↔ w &&& 0x6000000#128 = 0x2000000#128) ∧
  (∀ w x, decodeGroup .operandC w = some (.cFix x) ↔
    w &&& 0x6000000#128 = 0x4000000#128 ∧ x = w.extractLsb' 29 8) ∧
  ∀ (x : U8) (s : State), s.ports.rst = false →
    let k := unpackCfg s.cfg
    let put := fun (sel : U8 → U8 → Int) => s.advance fun p l => { bareCore s.params s.cfg p l with
      s4 := withChannels l.s3 p.fbIn fun src fb =>
        if appliesOf k l.s3.a then equation (colorOf k.a src fb) (colorOf k.b src fb)
          (sel l.s3.a p.fbIn.a) (colorOf k.d src fb)
        else src.setWidth 9 }
    exec .cAs s = .next (put fun srcA _ => srcA.toNat) ∧
    exec .cAd s = .next (put fun _ fbA => fbA.toNat) ∧
    exec (.cFix x) s = .next (put fun _ _ => x.toNat)

/-- R206 to R208: operand D. The floor shift and the 9-bit wrap of the equation are the spec's own
decisions D12 and D11 (log entries 8, 9). -/
def Obligations.BlendOperandD : Prop :=
  (∀ w, decodeGroup .operandD w = some .dSrc ↔ w &&& 0x18000000#128 = 0x0#128) ∧
  (∀ w, decodeGroup .operandD w = some .dFb ↔ w &&& 0x18000000#128 = 0x8000000#128) ∧
  (∀ w, decodeGroup .operandD w = some .dZero ↔ w &&& 0x18000000#128 = 0x10000000#128) ∧
  ∀ s : State, s.ports.rst = false →
    let k := unpackCfg s.cfg
    let put := fun (sel : U8 → U8 → Int) => s.advance fun p l => { bareCore s.params s.cfg p l with
      s4 := withChannels l.s3 p.fbIn fun src fb =>
        if appliesOf k l.s3.a then equation (colorOf k.a src fb) (colorOf k.b src fb)
          (alphaOperandOf k l.s3.a p.fbIn.a) (sel src fb)
        else src.setWidth 9 }
    exec .dSrc s = .next (put fun src _ => src.toNat) ∧
    exec .dFb s = .next (put fun _ fb => fb.toNat) ∧
    exec .dZero s = .next (put fun _ _ => 0)

/-- The value 3 of A, B, C and D lies outside the enumerations and acts as the last enumerated case: the
spec's own decision D9 (30_encoding.md R108, R109; log entry 20), in every next state the operation
gives. The floor shift and the 9-bit wrap of the equation are the spec's own decisions D12 and D11 (log
entries 8, 9). -/
def Obligations.ReservedSelectorsActAsTheLastCase : Prop :=
  (∀ w, decodeGroup .operandA w = some .aRsvd ↔ w &&& 0x600000#128 = 0x600000#128) ∧
  (∀ w, decodeGroup .operandB w = some .bRsvd ↔ w &&& 0x1800000#128 = 0x1800000#128) ∧
  (∀ w x, decodeGroup .operandC w = some (.cRsvd x) ↔
    w &&& 0x6000000#128 = 0x6000000#128 ∧ x = w.extractLsb' 29 8) ∧
  (∀ w, decodeGroup .operandD w = some .dRsvd ↔ w &&& 0x18000000#128 = 0x18000000#128) ∧
  ∀ (x : U8) (s : State), s.ports.rst = false →
    let k := unpackCfg s.cfg
    let put := fun (ch : Lane → LanePorts → U8 → U8 → U9) => s.advance fun p l => { bareCore s.params s.cfg p l with
      s4 := withChannels l.s3 p.fbIn fun src fb =>
        if appliesOf k l.s3.a then ch l p src fb else src.setWidth 9 }
    exec .aRsvd s = .next (put fun l p src fb => equation 0 (colorOf k.b src fb)
      (alphaOperandOf k l.s3.a p.fbIn.a) (colorOf k.d src fb)) ∧
    exec .bRsvd s = .next (put fun l p src fb => equation (colorOf k.a src fb) 0
      (alphaOperandOf k l.s3.a p.fbIn.a) (colorOf k.d src fb)) ∧
    exec (.cRsvd x) s = .next (put fun _ _ src fb => equation (colorOf k.a src fb) (colorOf k.b src fb)
      x.toNat (colorOf k.d src fb)) ∧
    exec .dRsvd s = .next (put fun l p src fb => equation (colorOf k.a src fb) (colorOf k.b src fb)
      (alphaOperandOf k l.s3.a p.fbIn.a) 0) ∧
    exec .aRsvd s = exec .aZero s ∧ exec .bRsvd s = exec .bZero s ∧
    exec (.cRsvd x) s = exec (.cFix x) s ∧ exec .dRsvd s = exec .dZero s

/-! ### Stage 5: DTH -/

/-- R221 to R225: dither, for every value of DITHER_COORD_LSB (R7, U4); the machine after reset has the
value 4 (`ResetStateAndResetPass`). That index bits above bit 15 of a coordinate, at values over 14, read
as 0 is the model's own reading (log entry 10, DEDUCED). The spec's own decisions: the offset is two's complement and the sum
wraps to 9 bits (D16, log entry 9), the cells lie in row-major order (D18). -/
def Obligations.DitherOperations : Prop :=
  (∀ w, decodeGroup .dither w = some .dthOff ↔ w &&& 0x2000000000#128 = 0x0#128) ∧
  (∀ w m, decodeGroup .dither w = some (.dthOn m) ↔
    w &&& 0x2000000000#128 = 0x2000000000#128 ∧ m = w.extractLsb' 64 64) ∧
  ∀ (m : BitVec 64) (s : State), s.ports.rst = false →
    let index := fun (v : Coord) => v.toNat / 2 ^ s.params.ditherCoordLsb % 4
    exec .dthOff s = .next (s.advance fun p l => { bareCore s.params s.cfg p l with s5 := l.s4 }) ∧
    exec (.dthOn m) s = .next (s.advance fun p l => { bareCore s.params s.cfg p l with
      s5 := mapChannels (fun c => BitVec.ofInt 9 (c.toNat +
          (m.extractLsb' (4 * (4 * index l.s4.y + index l.s4.x)) 3).toInt))
        l.s4 })

/-! ### Stage 6: CLAMP and FBA -/

/-- R231, R232: saturate above 255, or keep the low 8 bits. -/
def Obligations.ClampOperations : Prop :=
  (∀ w, decodeGroup .clamp w = some .clampMask ↔ w &&& 0x4000000000#128 = 0x0#128) ∧
  (∀ w, decodeGroup .clamp w = some .clampClamp ↔ w &&& 0x4000000000#128 = 0x4000000000#128) ∧
  ∀ s : State, s.ports.rst = false →
    let put := fun (ch : Nat → Nat) => s.advance fun p l => { bareCore s.params s.cfg p l with
      s6 := { mapChannels (fun (c : U9) => BitVec.ofNat 8 (ch c.toNat)) l.s5 with
        a := (bareCore s.params s.cfg p l).s6.a } }
    exec .clampMask s = .next (put fun c => c % 256) ∧
    exec .clampClamp s = .next (put fun c => if 255 < c then 255 else c)

/-- R233, R234: bit 7 of alpha replaced by 0 or by 1, bits 6 to 0 kept. -/
def Obligations.AlphaCorrectionOperations : Prop :=
  (∀ w, decodeGroup .alphaFix w = some .fba0 ↔ w &&& 0x8000000000#128 = 0x0#128) ∧
  (∀ w, decodeGroup .alphaFix w = some .fba1 ↔ w &&& 0x8000000000#128 = 0x8000000000#128) ∧
  ∀ s : State, s.ports.rst = false →
    let put := fun (fix : U8 → U8) => s.advance fun p l => { bareCore s.params s.cfg p l with
      s6 := { (bareCore s.params s.cfg p l).s6 with a := fix l.s5.a } }
    exec .fba0 s = .next (put fun a => a &&& 0x7F#8) ∧
    exec .fba1 s = .next (put fun a => (a &&& 0x7F#8) ||| 0x80#8)

/-! ### The stage functions of a configuration word -/

/-- R165: AlphaTest, from the bits of the configuration word. That FBPSM = 0 is the 32-bit RGBA layout
is the spec's own decision D19 (log entry 21). -/
def Obligations.AlphaTestFunction : Prop :=
  ∀ (cfg : CfgWord) (f : Frag8),
    let a := f.a.toNat
    let aref := cfg.toNat / 2 ^ 4 % 256
    let rgba32 := decide (cfg.toNat / 2 ^ 40 % 64 = 0)
    let ta := if cfg.toNat % 2 = 0 then true else
      [false, true, decide (a < aref), decide (a ≤ aref), decide (a = aref), decide (aref ≤ a),
       decide (aref < a), decide (a ≠ aref)].getD (cfg.toNat / 2 % 8) false
    let gates := [(true, true, true), (false, false, true), (true, true, false),
      if rgba32 then (false, true, true) else (false, false, true)].getD (cfg.toNat / 2 ^ 12 % 4)
      (true, true, true)
    alphaTest cfg f = { f with
      wc := f.wc && (ta || !gates.1)
      wa := f.wa && (ta || !gates.2.1)
      wz := f.wz && (ta || !gates.2.2) }

/-- 42_dst_alpha_test.md section 3, R176: DstAlphaTest, from the bits of the configuration word. That
the alpha tested is the fragment's own is the choice of 90_conflicts.md C1 (log entry 11); that equality
passes is the spec's own decision D15, that FBPSM = 1 is the format without alpha its decision D19 (log
entry 21). -/
def Obligations.DstAlphaTestFunction : Prop :=
  ∀ (cfg : CfgWord) (f : Frag8),
    let td := if cfg.toNat / 2 ^ 14 % 2 = 0 then true
      else if cfg.toNat / 2 ^ 40 % 64 = 1 then true
      else decide (f.a.toNat / 128 = cfg.toNat / 2 ^ 15 % 2)
    dstAlphaTest cfg f = { f with wc := f.wc && td, wa := f.wa && td, wz := f.wz && td }

/-- R188: ZTest, from the bits of the configuration word. -/
def Obligations.DepthTestFunction : Prop :=
  ∀ (cfg : CfgWord) (zref : Depth) (f : Frag8),
    let tz := if cfg.toNat / 2 ^ 16 % 2 = 0 then true else
      [false, true, decide (zref.toNat ≤ f.z.toNat), decide (zref.toNat < f.z.toNat)].getD
        (cfg.toNat / 2 ^ 17 % 4) false
    zTest cfg zref f = { f with wc := f.wc && tz, wa := f.wa && tz, wz := f.wz && tz }

/-- 44_alpha_blend.md section 5, R215, R216: AlphaBlend, from the bits of the configuration word. The
spec's own decisions: a selector of 3 acts as the last enumerated case (D9, log entry 20), the 9-bit
reduction wraps at both ends (D11, log entries 8, 9), the shift rounds toward minus infinity (D12). -/
def Obligations.AlphaBlendFunction : Prop :=
  ∀ (cfg : CfgWord) (fb : FbSample) (f : Frag8),
    let applies := decide (cfg.toNat / 2 ^ 19 % 2 = 1 ∧
      (cfg.toNat / 2 ^ 20 % 2 = 0 ∨ f.a.toNat / 128 = 1))
    let sel := fun (field : Nat) (src fb : U8) => ([(src.toNat : Int), (fb.toNat : Int), 0, 0].getD field 0)
    let fix : Nat := cfg.toNat / 2 ^ 29 % 256
    let cv := [(f.a.toNat : Int), (fb.a.toNat : Int), (fix : Int), (fix : Int)].getD (cfg.toNat / 2 ^ 25 % 4) 0
    alphaBlend cfg fb f = withChannels f fb fun src dst =>
      if applies then
        equation (sel (cfg.toNat / 2 ^ 21 % 4) src dst) (sel (cfg.toNat / 2 ^ 23 % 4) src dst) cv
          (sel (cfg.toNat / 2 ^ 27 % 4) src dst)
      else src.setWidth 9

/-- 45_dither.md section 4, R227: Dither, from the bits of the configuration word, for every value of
DITHER_COORD_LSB; that index bits above bit 15 of a coordinate, at values over 14, read as 0 is the
model's own reading (log entry 10, DEDUCED). The spec's own decisions: the offset is two's complement and
the sum wraps to 9 bits (D16, log entry 9), the cells lie in row-major order (D18). -/
def Obligations.DitherFunction : Prop :=
  ∀ (prm : Params) (cfg : CfgWord) (f : Frag9),
    let col := f.x.toNat / 2 ^ prm.ditherCoordLsb % 4
    let row := f.y.toNat / 2 ^ prm.ditherCoordLsb % 4
    let cell : Nat := cfg.toNat / 2 ^ (64 + 4 * (4 * row + col)) % 8
    let off : Int := if cell < 4 then (cell : Int) else (cell : Int) - 8
    dither prm cfg f = mapChannels (fun c =>
      if cfg.toNat / 2 ^ 37 % 2 = 1 then BitVec.ofInt 9 (c.toNat + off) else c) f

/-- R236: Clamp, from the bits of the configuration word. -/
def Obligations.ClampFunction : Prop :=
  ∀ (cfg : CfgWord) (f : Frag9),
    clamp cfg f = { mapChannels (fun (c : U9) => BitVec.ofNat 8
        (if cfg.toNat / 2 ^ 38 % 2 = 1 then (if 255 < c.toNat then 255 else c.toNat)
         else c.toNat % 256)) f with
      a := BitVec.ofNat 8 (128 * (cfg.toNat / 2 ^ 39 % 2) + f.a.toNat % 128) }

/-! ### The pass -/

/-- R137: what `frag_out` shows six steps after a fragment was presented, the configuration and the
side operands being those of the steps in which each stage evaluates it; with a constant configuration
it is the pass function. The premises: `rst` is low during steps e to e + 5. The spec's own inference
from R133. -/
def Obligations.SixStepsComputeThePass : Prop :=
  ∀ (s : State) (p0 p1 p2 p3 p4 p5 : Ports) (rest : List Ports) (l : Nat),
    s.env = p0 :: p1 :: p2 :: p3 :: p4 :: p5 :: rest →
    (∀ p ∈ [p0, p1, p2, p3, p4, p5], p.rst = false) → l < s.lanes.length →
    let c0 := s.cfg
    let c1 := loadedCfg p0 c0
    let c2 := loadedCfg p1 c1
    let c3 := loadedCfg p2 c2
    let c4 := loadedCfg p3 c3
    let c5 := loadedCfg p4 c4
    ∃ t, Host.Core.run Sys2Proof.core 6 s = .next t ∧ t.env = rest ∧
      t.fragOut l = some (clamp c5 (dither s.params c4 (alphaBlend c3 (p3.lane l).fbIn
        (zTest c2 (p2.lane l).zrefIn (dstAlphaTest c1 (alphaTest c0 (p0.lane l).fragIn)))))) ∧
      ((∀ p ∈ [p0, p1, p2, p3, p4], keepsCfg s.cfg p = true) →
        t.fragOut l = some (pipe s.params s.cfg (p0.lane l).fragIn (p2.lane l).zrefIn (p3.lane l).fbIn))

/-- R278, R137: an environment that keeps the duty of configuration stability gets, for every live
fragment, the pass under the configuration it entered with. The duty is the spec's own decision D6; that
it counts the fragments live when presented, in a drained machine too, is the model's choice (log entry
22, DESIGN CHOICE). That a lane a record does not list carries a bubble is the model's choice (log entry
2, DESIGN CHOICE). -/
def Obligations.LoadDutyGivesThePass : Prop :=
  ∀ (s : State) (since : Nat) (p0 p1 p2 p3 p4 p5 : Ports) (rest : List Ports) (l : Nat),
    s.env = p0 :: p1 :: p2 :: p3 :: p4 :: p5 :: rest → l < s.lanes.length →
    loadDuty since s.cfg s.env = true → live (p0.lane l).fragIn = true →
    ∃ t, Host.Core.run Sys2Proof.core 6 s = .next t ∧
      t.fragOut l = some (pipe s.params s.cfg (p0.lane l).fragIn (p2.lane l).zrefIn (p3.lane l).fbIn)

/-- R132: which fields a stage can change; all others it copies. Position and depth at `frag_out` are
those presented six steps before, whatever is loaded meanwhile; the premises of that clause are that
`rst` is low in the six steps. -/
def Obligations.StagesCopyTheOtherFields : Prop :=
  (∀ (prm : Params) (cfg : CfgWord) (zref : Depth) (fb : FbSample) (f : Frag8) (k : Frag9),
    (let o := alphaTest cfg f
     samePlace o f ∧ o.r = f.r ∧ o.g = f.g ∧ o.b = f.b ∧ flagsWithin o f) ∧
    (let o := dstAlphaTest cfg f
     samePlace o f ∧ o.r = f.r ∧ o.g = f.g ∧ o.b = f.b ∧ flagsWithin o f) ∧
    (let o := zTest cfg zref f
     samePlace o f ∧ o.r = f.r ∧ o.g = f.g ∧ o.b = f.b ∧ flagsWithin o f) ∧
    (let o := alphaBlend cfg fb f; samePlace o f ∧ sameFlags o f) ∧
    (let o := dither prm cfg k; samePlace o k ∧ sameFlags o k) ∧
    (let o := clamp cfg k
     o.x = k.x ∧ o.y = k.y ∧ o.z = k.z ∧ o.a.extractLsb' 0 7 = k.a.extractLsb' 0 7 ∧ sameFlags o k)) ∧
  ∀ (s : State) (p0 p1 p2 p3 p4 p5 : Ports) (rest : List Ports) (l : Nat),
    s.env = p0 :: p1 :: p2 :: p3 :: p4 :: p5 :: rest →
    (∀ p ∈ [p0, p1, p2, p3, p4, p5], p.rst = false) → l < s.lanes.length →
    ∃ t f, Host.Core.run Sys2Proof.core 6 s = .next t ∧ t.fragOut l = some f ∧
      f.x = (p0.lane l).fragIn.x ∧ f.y = (p0.lane l).fragIn.y ∧ f.z = (p0.lane l).fragIn.z

/-- R139, the spec's own inference from R165, R176 and R188: the final write-enable triple of a pass.
That FBPSM = 0 is the 32-bit RGBA layout is the spec's own decision D19 (log entry 21). -/
def Obligations.FinalTripleIsTheConjunction : Prop :=
  ∀ (prm : Params) (cfg : CfgWord) (f : Frag8) (zr : Depth) (fb : FbSample),
    let k := unpackCfg cfg
    let ta := alphaResultOf k f.a
    let td := dstResultOf k f.a
    let tz := depthResultOf k f.z zr
    let m : Bool × Bool × Bool :=
      if k.afail = 0 then (true, true, true) else if k.afail = 1 then (false, false, true)
      else if k.afail = 2 then (true, true, false)
      else if k.fbpsm = 0 then (false, true, true) else (false, false, true)
    (pipe prm cfg f zr fb).wc = (f.wc && (ta || !m.1) && td && tz) ∧
    (pipe prm cfg f zr fb).wa = (f.wa && (ta || !m.2.1) && td && tz) ∧
    (pipe prm cfg f zr fb).wz = (f.wz && (ta || !m.2.2) && td && tz)

/-- R144, the spec's own inference: the other fields of a pass, for every value of DITHER_COORD_LSB; that
index bits above bit 15 of a coordinate, at values over 14, read as 0 is the model's own reading (log
entry 10, DEDUCED). The three channels are one function of their own inputs. -/
def Obligations.PassValues : Prop :=
  ∀ (prm : Params) (cfg : CfgWord) (f : Frag8) (zr : Depth) (fb : FbSample),
    let k := unpackCfg cfg
    let out := fun (src dst : U8) =>
      clampOf k (ditherOf k prm.ditherCoordLsb f.x f.y
        (if appliesOf k f.a then blend (colorOf k.a src dst) (colorOf k.b src dst)
          (alphaOperandOf k f.a fb.a) (colorOf k.d src dst) else src.setWidth 9))
    (pipe prm cfg f zr fb).x = f.x ∧ (pipe prm cfg f zr fb).y = f.y ∧ (pipe prm cfg f zr fb).z = f.z ∧
    (pipe prm cfg f zr fb).a = BitVec.ofBool k.fba ++ f.a.extractLsb' 0 7 ∧
    (pipe prm cfg f zr fb).r = out f.r fb.r ∧
    (pipe prm cfg f zr fb).g = out f.g fb.g ∧
    (pipe prm cfg f zr fb).b = out f.b fb.b

/-- R35 (and R140): flags only fall, in each stage and over a pass, and over a pass whose configuration
changes in flight. -/
def Obligations.FlagsNeverRise : Prop :=
  (∀ (prm : Params) (cfg : CfgWord) (zref : Depth) (fb : FbSample) (f : Frag8) (k : Frag9),
    flagsWithin (alphaTest cfg f) f ∧ flagsWithin (dstAlphaTest cfg f) f ∧
    flagsWithin (zTest cfg zref f) f ∧ flagsWithin (alphaBlend cfg fb f) f ∧
    flagsWithin (dither prm cfg k) k ∧ flagsWithin (clamp cfg k) k) ∧
  (∀ prm cfg f zr fb, flagsWithin (pipe prm cfg f zr fb) f) ∧
  ∀ (prm : Params) (c0 c1 c2 c3 c4 c5 : CfgWord) (f : Frag8) (zr : Depth) (fb : FbSample),
    flagsWithin (clamp c5 (dither prm c4 (alphaBlend c3 fb (zTest c2 zr (dstAlphaTest c1
      (alphaTest c0 f)))))) f

/-- R142: no stage computes color, alpha, position or depth from a flag, nor a flag from a color; of the
other fields a stage's flags depend on `a` alone (AlphaTest, DestinationAlphaTest), on `z` and `zref_in`
alone (ZTest), or on none. The last two clauses say so of a whole pass. -/
def Obligations.FlagsAndColorsDoNotMix : Prop :=
  (∀ (prm : Params) (cfg : CfgWord) (f g : Frag8) (zr zr' : Depth) (fb : FbSample), samePlace f g → sameColor f g →
    (samePlace (alphaTest cfg f) (alphaTest cfg g) ∧ sameColor (alphaTest cfg f) (alphaTest cfg g)) ∧
    (samePlace (dstAlphaTest cfg f) (dstAlphaTest cfg g) ∧
      sameColor (dstAlphaTest cfg f) (dstAlphaTest cfg g)) ∧
    (samePlace (zTest cfg zr f) (zTest cfg zr' g) ∧ sameColor (zTest cfg zr f) (zTest cfg zr' g)) ∧
    (samePlace (alphaBlend cfg fb f) (alphaBlend cfg fb g) ∧
      sameColor (alphaBlend cfg fb f) (alphaBlend cfg fb g)) ∧
    (samePlace (pipe prm cfg f zr fb) (pipe prm cfg g zr' fb) ∧
      sameColor (pipe prm cfg f zr fb) (pipe prm cfg g zr' fb))) ∧
  (∀ (prm : Params) (cfg : CfgWord) (k m : Frag9), samePlace k m → sameColor k m →
    (samePlace (dither prm cfg k) (dither prm cfg m) ∧ sameColor (dither prm cfg k) (dither prm cfg m)) ∧
    samePlace (clamp cfg k) (clamp cfg m) ∧ sameColor (clamp cfg k) (clamp cfg m)) ∧
  (∀ (prm : Params) (cfg : CfgWord) (f g : Frag8) (zr : Depth) (fb fb' : FbSample), sameFlags f g →
    (f.a = g.a → sameFlags (alphaTest cfg f) (alphaTest cfg g)) ∧
    (f.a = g.a → sameFlags (dstAlphaTest cfg f) (dstAlphaTest cfg g)) ∧
    (f.z = g.z → sameFlags (zTest cfg zr f) (zTest cfg zr g)) ∧
    sameFlags (alphaBlend cfg fb f) (alphaBlend cfg fb' g) ∧
    (f.z = g.z → f.a = g.a → sameFlags (pipe prm cfg f zr fb) (pipe prm cfg g zr fb'))) ∧
  ∀ (prm : Params) (cfg : CfgWord) (k m : Frag9), sameFlags k m →
    sameFlags (dither prm cfg k) (dither prm cfg m) ∧ sameFlags (clamp cfg k) (clamp cfg m)

/-- R145: the source's end-to-end scenario, for any position, depth, flags and framebuffer. -/
def Obligations.EndToEndScenario : Prop :=
  ∀ (prm : Params) (x y : Coord) (z zr : Depth) (wc wa wz fba : Bool) (fb : FbSample),
    pipe prm (packCfg { ate := true, atst := 5, aref := 0x40, fba := fba })
      ⟨x, y, z, 10, 20, 30, 0x80, wc, wa, wz⟩ zr fb =
      ⟨x, y, z, 10, 20, 30, if fba then 0x80 else 0x00, wc, wa, wz⟩

/-! ### Bubbles and the drained state -/

/-- R141, the spec's own inference: a bubble stays a bubble from stage to stage, whatever the
configuration of the step. -/
def Obligations.BubblesStayBubbles : Prop :=
  ∀ (prm : Params) (cfg : CfgWord) (p : LanePorts) (l : Lane),
    (bubble p.fragIn = true → bubble (bareCore prm cfg p l).s1 = true) ∧
    (bubble l.s1 = true → bubble (bareCore prm cfg p l).s2 = true) ∧
    (bubble l.s2 = true → bubble (bareCore prm cfg p l).s3 = true) ∧
    (bubble l.s3 = true → bubble (bareCore prm cfg p l).s4 = true) ∧
    (bubble l.s4 = true → bubble (bareCore prm cfg p l).s5 = true) ∧
    (bubble l.s5 = true → bubble (bareCore prm cfg p l).s6 = true)

/-- R276 (the spec's own decision D38): the drained state persists for as long as bubbles are presented,
through loads and resets. That a step the script does not reach, and a lane a record does not list, is
presented a bubble is the model's choice (log entry 2, DESIGN CHOICE). -/
def Obligations.DrainedStatePersists : Prop :=
  ∀ s t : State, drained s = true → quiet s = true → step s = .next t →
    drained t = true ∧ quiet t = true

/-- R58, R276 (the spec's own decisions D27, D38): the machine right after reset is drained. Its empty
script presents only bubbles by the model's choice (log entries 1, 2, DESIGN CHOICE). -/
def Obligations.ResetStateIsDrained : Prop :=
  ∀ prm n, drained (State.resetWide prm n) = true ∧ quiet (State.resetWide prm n) = true

/-- R84, R276: six steps of bubbles drain the machine, from any state; after them nothing is presented
to the collaborator but bubbles. The spec's own decisions D37 and D38. That a step the script does not
reach, and a lane a record does not list, is presented a bubble is the model's choice (log entry 2,
DESIGN CHOICE). -/
def Obligations.SixBubblesDrainTheMachine : Prop :=
  ∀ s : State, quiet s = true →
    ∃ t, Host.Core.run Sys2Proof.core 6 s = .next t ∧ drained t = true ∧
      ∀ l f, t.fragOut l = some f → bubble f = true

/-! ### Lanes -/

/-- R241: one step of the array is one step of every lane under the shared configuration, and what a
lane does over any number of steps, resets and loads among them, is what that lane alone would do with
its own ports. -/
def Obligations.LanesAreIndependent : Prop :=
  (∀ s : State, s.ports.rst = false → ∃ t, step s = .next t ∧
    ∀ l, t.lanes[l]? = s.lanes[l]?.map (bareCore s.params s.cfg (s.ports.lane l))) ∧
  ∀ (k : Nat) (s : State) (l : Nat), ∃ t,
    Host.Core.run Sys2Proof.core k s = .next t ∧
    Host.Core.run Sys2Proof.core k (onlyLane l s) = .next (onlyLane l t)

/-! ### Arithmetic -/

/-- 44_alpha_blend.md section 4, R210: the blend equation, and the range of each of its intermediate
values. The spec's own decisions: the 9-bit reduction wraps at both ends (D11, log entries 8, 9), the
shift rounds toward minus infinity (D12). -/
def Obligations.BlendEquationAndItsRanges : Prop :=
  ∀ a b c d : U8,
    let diff : Int := (a.toNat : Int) - b.toNat
    let prod := diff * c.toNat
    let shft := prod.fdiv 128
    let sum := shft + d.toNat
    blend (zext a) (zext b) (zext c) (zext d) = BitVec.ofInt 9 sum ∧
    -255 ≤ diff ∧ diff ≤ 255 ∧ -65025 ≤ prod ∧ prod ≤ 65025 ∧
    -509 ≤ shft ∧ shft ≤ 508 ∧ -509 ≤ sum ∧ sum ≤ 763

/-- R217, R211, the spec's own inferences from R210: the identities of the blend equation, and when the
product is negative. They rest on its decisions D11 and D12 (log entries 8, 9). -/
def Obligations.BlendIdentities : Prop :=
  (∀ a c d : U8, blend (zext a) (zext a) (zext c) (zext d) = d.setWidth 9) ∧
  (∀ a b d : U8, blend (zext a) (zext b) 0 (zext d) = d.setWidth 9) ∧
  (∀ a b d : U8, blend (zext a) (zext b) 128 (zext d) =
    BitVec.ofInt 9 ((a.toNat : Int) - b.toNat + d.toNat)) ∧
  (∀ a c : U8, (blend (zext a) 0 (zext c) 0).toNat = a.toNat * c.toNat / 128 ∧
    a.toNat * c.toNat / 128 ≤ 508) ∧
  (∀ s d as : U8, as.toNat ≤ 128 →
    let sum := blendSum (zext s) (zext d) (zext as) (zext d)
    min (zext s) (zext d) ≤ sum ∧ sum ≤ max (zext s) (zext d)) ∧
  blendSum 0 255 255 0 = -509 ∧ blend 0 255 255 0 = 3 ∧
  blendSum 255 0 255 255 = 763 ∧ blend 255 0 255 255 = 251 ∧
  ∀ a b c : U8, (zext a - zext b) * zext c < 0 ↔ a.toNat < b.toNat ∧ 0 < c.toNat

/-- R213 (the spec's own decision D11; log entry 9): the 9-bit reduction wraps at both ends. -/
def Obligations.NineBitReductionWraps : Prop :=
  ∀ sum : Int, -509 ≤ sum → sum ≤ 763 →
    ((trunc9 sum).toNat : Int) =
      if sum < 0 then sum + 512 else if sum < 512 then sum else sum - 512

/-- 93_implementation_defined.md U1, U2 (log entries 8, 9): over the sums the equation can give, CLAMP under the literal reading and under the
alternative that this spec does not adopt differ exactly on negative sums and on sums above 511. -/
def Obligations.ReadingsDifferOutsideNineBits : Prop :=
  ∀ sum : Int, -509 ≤ sum → sum ≤ 763 →
    (clampSaturate (trunc9 sum) = altClamp sum ↔ 0 ≤ sum ∧ sum ≤ 511)

/-- R237, the spec's own inference: the two clamp modes agree on 0 to 255 and on 511 and differ elsewhere by their rules. -/
def Obligations.ClampModesCompared : Prop :=
  ∀ c : U9,
    (c.toNat ≤ 255 → (clampSaturate c).toNat = c.toNat ∧ (clampMask c).toNat = c.toNat) ∧
    (c.toNat = 511 → clampSaturate c = 255 ∧ clampMask c = 255) ∧
    (256 ≤ c.toNat → c.toNat ≤ 510 →
      (clampSaturate c).toNat = 255 ∧ (clampMask c).toNat = c.toNat - 256)

/-- R225, R228 (the spec's own decision D16; log entry 9): the dither sum wraps to 9 bits, and a fragment's
offset depends on its position only through two bits of x and two of y, whichever bits DITHER_COORD_LSB
names (U4); that bits above bit 15 of a coordinate, at values over 14, read as 0 is the model's own
reading (log entry 10, DEDUCED). -/
def Obligations.DitherSumAndPosition : Prop :=
  (∀ (off : Int) (c : U9), -4 ≤ off → off ≤ 3 →
    ((dith off c).toNat : Int) = ((c.toNat : Int) + off) % 512) ∧
  (∀ (lsb : Nat) (m : BitVec 64) (x y x' y' : Coord),
    x.toNat / 2 ^ lsb % 4 = x'.toNat / 2 ^ lsb % 4 → y.toNat / 2 ^ lsb % 4 = y'.toNat / 2 ^ lsb % 4 →
    ditherOffset lsb m x y = ditherOffset lsb m x' y') ∧
  (∀ (lsb : Nat) (m : BitVec 64) (x y : Coord),
    -4 ≤ ditherOffset lsb m x y ∧ ditherOffset lsb m x y ≤ 3) ∧
  (∀ (lsb : Nat) (x y : Coord) (c : U9), ditherAdd 0 lsb x y c = c)

/-! ### Operand selectors -/

/-- 30_encoding.md section 3 (R98, R99): the fields A, B, D decode to the members of one closed
enumeration, the field C to those of another, numbered as the spec's own decision D8 numbers them; the
operation of the group names the same member, and the value 3 acts as the last one (decision D9, log
entry 20). A member's operand is the source, the framebuffer, zero or the constant. -/
def Obligations.SelectorFieldsNameTheirMembers : Prop :=
  (∀ v : BitVec 2, decodeRgbSel v = if v = 0 then .source else if v = 1 then .framebuffer else .zero) ∧
  (∀ v : BitVec 2, decodeAlphaSel v =
    if v = 0 then .sourceAlpha else if v = 1 then .framebufferAlpha else .fixed) ∧
  (∀ src fb : U8, rgbOperand .source src fb = src.toNat ∧ rgbOperand .framebuffer src fb = fb.toNat ∧
    rgbOperand .zero src fb = 0) ∧
  (∀ x srcA fbA : U8, alphaOperand .sourceAlpha x srcA fbA = srcA.toNat ∧
    alphaOperand .framebufferAlpha x srcA fbA = fbA.toNat ∧ alphaOperand .fixed x srcA fbA = x.toNat) ∧
  ∀ w : CfgWord,
    let c := Controls.ofCfg w
    c.fix = w.extractLsb' 29 8 ∧
    (c.operandA = .source ↔ decodeGroup .operandA w = some .aSrc) ∧
    (c.operandA = .framebuffer ↔ decodeGroup .operandA w = some .aFb) ∧
    (c.operandA = .zero ↔
      decodeGroup .operandA w = some .aZero ∨ decodeGroup .operandA w = some .aRsvd) ∧
    (c.operandB = .source ↔ decodeGroup .operandB w = some .bSrc) ∧
    (c.operandB = .framebuffer ↔ decodeGroup .operandB w = some .bFb) ∧
    (c.operandB = .zero ↔
      decodeGroup .operandB w = some .bZero ∨ decodeGroup .operandB w = some .bRsvd) ∧
    (c.operandC = .sourceAlpha ↔ decodeGroup .operandC w = some .cAs) ∧
    (c.operandC = .framebufferAlpha ↔ decodeGroup .operandC w = some .cAd) ∧
    (c.operandC = .fixed ↔ decodeGroup .operandC w = some (.cFix c.fix) ∨
      decodeGroup .operandC w = some (.cRsvd c.fix)) ∧
    (c.operandD = .source ↔ decodeGroup .operandD w = some .dSrc) ∧
    (c.operandD = .framebuffer ↔ decodeGroup .operandD w = some .dFb) ∧
    (c.operandD = .zero ↔
      decodeGroup .operandD w = some .dZero ∨ decodeGroup .operandD w = some .dRsvd)

/-! ### A load in the drained state -/

/-- R276 (the spec's own decision D38), where it meets R278 (log entry 22, DESIGN CHOICE: such a load need
not keep the duty as R278 counts it): a load in a step that begins drained, with bubbles presented,
disturbs no result. Whatever the load, and whatever is presented, loaded or reset in the steps after it,
`frag_out` shows nothing but bubbles in that step and the six after it: every fragment the load could
meet in flight stays a bubble. That a step the script does not reach, and a lane a record does not list,
is presented a bubble is the model's choice (log entry 2, DESIGN CHOICE). -/
def Obligations.DrainedLoadDisturbsNoResult : Prop :=
  ∀ (s : State) (k : Nat), drained s = true → bubblesIn s.ports = true → k ≤ 6 →
    ∃ t, Host.Core.run Sys2Proof.core k s = .next t ∧
      ∀ l f, t.fragOut l = some f → bubble f = true
end

