-- ==== Sys2Proof/Laws/State.lean ====
section
/-! SUPPORT. One lemma per field per update of a record: no later proof unfolds an update. -/

namespace Sys2Proof.Machine

/-! ### Clock edges -/

section edges
variable (next : LanePorts → Lane → Lane) (s : State)

@[simp] theorem State.advance_lanes :
    (s.advance next).lanes = s.lanes.mapIdx fun l lane => next (s.ports.lane l) lane := rfl
@[simp] theorem State.advance_cfg : (s.advance next).cfg = loadedCfg s.ports s.cfg := rfl
@[simp] theorem State.advance_env : (s.advance next).env = s.env.tail := rfl
@[simp] theorem State.advance_params : (s.advance next).params = s.params := rfl
@[simp] theorem State.resetEdge_lanes : s.resetEdge.lanes = s.lanes.map fun _ => Lane.zero := rfl
@[simp] theorem State.resetEdge_cfg : s.resetEdge.cfg = 0 := rfl
@[simp] theorem State.resetEdge_env : s.resetEdge.env = s.env.tail := rfl
@[simp] theorem State.resetEdge_params : s.resetEdge.params = s.params := rfl

end edges

@[simp] theorem State.resetWide_lanes (m : Params) (n : Nat) :
    (State.resetWide m n).lanes = List.replicate n Lane.zero := rfl
@[simp] theorem State.resetWide_cfg (m : Params) (n : Nat) : (State.resetWide m n).cfg = 0 := rfl
@[simp] theorem State.resetWide_env (m : Params) (n : Nat) : (State.resetWide m n).env = [] := rfl
@[simp] theorem State.resetWide_params (m : Params) (n : Nat) : (State.resetWide m n).params = m := rfl

@[simp] theorem State.withWord_lanes (w : CfgWord) (s : State) : (s.withWord w).lanes = s.lanes := rfl
@[simp] theorem State.withWord_params (w : CfgWord) (s : State) : (s.withWord w).params = s.params := rfl
@[simp] theorem State.withWord_cfg (w : CfgWord) (s : State) : (s.withWord w).cfg = w := rfl

/-! ### Gating (41_alpha_test.md R165, 42_dst_alpha_test.md R173, 43_ztest.md R187) -/

section gating
variable {n : Nat} (g : Gates) (t : Bool) (f : Frag n)

@[simp] theorem Frag.gateSelected_x : (f.gateSelected g t).x = f.x := rfl
@[simp] theorem Frag.gateSelected_y : (f.gateSelected g t).y = f.y := rfl
@[simp] theorem Frag.gateSelected_z : (f.gateSelected g t).z = f.z := rfl
@[simp] theorem Frag.gateSelected_r : (f.gateSelected g t).r = f.r := rfl
@[simp] theorem Frag.gateSelected_g : (f.gateSelected g t).g = f.g := rfl
@[simp] theorem Frag.gateSelected_b : (f.gateSelected g t).b = f.b := rfl
@[simp] theorem Frag.gateSelected_a : (f.gateSelected g t).a = f.a := rfl
@[simp] theorem Frag.gateSelected_wc : (f.gateSelected g t).wc = (f.wc && (t || !g.mc)) := rfl
@[simp] theorem Frag.gateSelected_wa : (f.gateSelected g t).wa = (f.wa && (t || !g.ma)) := rfl
@[simp] theorem Frag.gateSelected_wz : (f.gateSelected g t).wz = (f.wz && (t || !g.mz)) := rfl
@[simp] theorem Frag.gateAll_x : (f.gateAll t).x = f.x := rfl
@[simp] theorem Frag.gateAll_y : (f.gateAll t).y = f.y := rfl
@[simp] theorem Frag.gateAll_z : (f.gateAll t).z = f.z := rfl
@[simp] theorem Frag.gateAll_r : (f.gateAll t).r = f.r := rfl
@[simp] theorem Frag.gateAll_g : (f.gateAll t).g = f.g := rfl
@[simp] theorem Frag.gateAll_b : (f.gateAll t).b = f.b := rfl
@[simp] theorem Frag.gateAll_a : (f.gateAll t).a = f.a := rfl
@[simp] theorem Frag.gateAll_wc : (f.gateAll t).wc = (f.wc && t) := rfl
@[simp] theorem Frag.gateAll_wa : (f.gateAll t).wa = (f.wa && t) := rfl
@[simp] theorem Frag.gateAll_wz : (f.gateAll t).wz = (f.wz && t) := rfl

end gating

/-! ### Stage functions, field by field -/

section stages
variable (m : Params) (c : Controls) (fb : FbSample) (f : Frag8) (k : Frag9)

@[simp] theorem alphaBlendStage_x : (alphaBlendStage c fb f).x = f.x := rfl
@[simp] theorem alphaBlendStage_y : (alphaBlendStage c fb f).y = f.y := rfl
@[simp] theorem alphaBlendStage_z : (alphaBlendStage c fb f).z = f.z := rfl
@[simp] theorem alphaBlendStage_r :
    (alphaBlendStage c fb f).r = blendChannel c f.a fb.a f.r fb.r := rfl
@[simp] theorem alphaBlendStage_g :
    (alphaBlendStage c fb f).g = blendChannel c f.a fb.a f.g fb.g := rfl
@[simp] theorem alphaBlendStage_b :
    (alphaBlendStage c fb f).b = blendChannel c f.a fb.a f.b fb.b := rfl
@[simp] theorem alphaBlendStage_a : (alphaBlendStage c fb f).a = f.a := rfl
@[simp] theorem alphaBlendStage_wc : (alphaBlendStage c fb f).wc = f.wc := rfl
@[simp] theorem alphaBlendStage_wa : (alphaBlendStage c fb f).wa = f.wa := rfl
@[simp] theorem alphaBlendStage_wz : (alphaBlendStage c fb f).wz = f.wz := rfl
@[simp] theorem ditherStage_x : (ditherStage m c k).x = k.x := rfl
@[simp] theorem ditherStage_y : (ditherStage m c k).y = k.y := rfl
@[simp] theorem ditherStage_z : (ditherStage m c k).z = k.z := rfl
@[simp] theorem ditherStage_r : (ditherStage m c k).r = c.dither m.ditherCoordLsb k.x k.y k.r := rfl
@[simp] theorem ditherStage_g : (ditherStage m c k).g = c.dither m.ditherCoordLsb k.x k.y k.g := rfl
@[simp] theorem ditherStage_b : (ditherStage m c k).b = c.dither m.ditherCoordLsb k.x k.y k.b := rfl
@[simp] theorem ditherStage_a : (ditherStage m c k).a = k.a := rfl
@[simp] theorem ditherStage_wc : (ditherStage m c k).wc = k.wc := rfl
@[simp] theorem ditherStage_wa : (ditherStage m c k).wa = k.wa := rfl
@[simp] theorem ditherStage_wz : (ditherStage m c k).wz = k.wz := rfl
@[simp] theorem clampStage_x : (clampStage c k).x = k.x := rfl
@[simp] theorem clampStage_y : (clampStage c k).y = k.y := rfl
@[simp] theorem clampStage_z : (clampStage c k).z = k.z := rfl
@[simp] theorem clampStage_r : (clampStage c k).r = c.clamp k.r := rfl
@[simp] theorem clampStage_g : (clampStage c k).g = c.clamp k.g := rfl
@[simp] theorem clampStage_b : (clampStage c k).b = c.clamp k.b := rfl
@[simp] theorem clampStage_a : (clampStage c k).a = replaceAlphaMsb c.alphaBit k.a := rfl
@[simp] theorem clampStage_wc : (clampStage c k).wc = k.wc := rfl
@[simp] theorem clampStage_wa : (clampStage c k).wa = k.wa := rfl
@[simp] theorem clampStage_wz : (clampStage c k).wz = k.wz := rfl

end stages

/-! ### One step of a lane, register by register (40_pipeline.md R133) -/

section lane
variable (m : Params) (c : Controls) (p : LanePorts) (l : Lane)

@[simp] theorem laneStep_s1 : (laneStep m c p l).s1 = alphaTestStage c p.fragIn := rfl
@[simp] theorem laneStep_s2 : (laneStep m c p l).s2 = dstAlphaTestStage c l.s1 := rfl
@[simp] theorem laneStep_s3 : (laneStep m c p l).s3 = zTestStage c p.zrefIn l.s2 := rfl
@[simp] theorem laneStep_s4 : (laneStep m c p l).s4 = alphaBlendStage c p.fbIn l.s3 := rfl
@[simp] theorem laneStep_s5 : (laneStep m c p l).s5 = ditherStage m c l.s4 := rfl
@[simp] theorem laneStep_s6 : (laneStep m c p l).s6 = clampStage c l.s5 := rfl

end lane

/-! ### The operations in force, entry by entry -/

section controls
variable (f : CfgFields)

@[simp] theorem Controls.ofFields_alphaResult :
    (Controls.ofFields f).alphaResult = alphaResultOf f := rfl
@[simp] theorem Controls.ofFields_gates : (Controls.ofFields f).gates = gatesOf f := rfl
@[simp] theorem Controls.ofFields_dstResult : (Controls.ofFields f).dstResult = dstResultOf f := rfl
@[simp] theorem Controls.ofFields_depthResult :
    (Controls.ofFields f).depthResult = depthResultOf f := rfl
@[simp] theorem Controls.ofFields_applies : (Controls.ofFields f).applies = appliesOf f := rfl
@[simp] theorem Controls.ofFields_operandA :
    (Controls.ofFields f).operandA = decodeRgbSel f.a := rfl
@[simp] theorem Controls.ofFields_operandB :
    (Controls.ofFields f).operandB = decodeRgbSel f.b := rfl
@[simp] theorem Controls.ofFields_operandC :
    (Controls.ofFields f).operandC = decodeAlphaSel f.c := rfl
@[simp] theorem Controls.ofFields_fix : (Controls.ofFields f).fix = f.fix := rfl
@[simp] theorem Controls.ofFields_operandD :
    (Controls.ofFields f).operandD = decodeRgbSel f.d := rfl
@[simp] theorem Controls.ofFields_dither : (Controls.ofFields f).dither = ditherOf f := rfl
@[simp] theorem Controls.ofFields_clamp : (Controls.ofFields f).clamp = clampOf f := rfl
@[simp] theorem Controls.ofFields_alphaBit : (Controls.ofFields f).alphaBit = f.fba := rfl

end controls

end Sys2Proof.Machine
end

