-- ==== Sys2Proof/Laws/Ops.lean ====
section
/-! SUPPORT. For each shared operation, once, everything it can do: the lemmas a proof cites instead of
unfolding the operation. -/

namespace Sys2Proof.Machine

/-! ### Primitives (00_scope.md R11) -/

theorem zext_nonneg {n : Nat} (v : BitVec n) : 0 ≤ zext v := Int.natCast_nonneg _

theorem zext_lt {n : Nat} (v : BitVec n) : zext v < 2 ^ n := by
  have := v.isLt
  simp only [zext]
  exact_mod_cast this

/-- An 8-bit value as an integer. -/
theorem zext_u8_le (v : U8) : zext v ≤ 255 := by
  have := v.isLt
  simp only [zext]
  omega

/-- `trunc_9` in numbers: the sum modulo 512 (44_alpha_blend.md R213). -/
theorem trunc9_toNat (i : Int) : ((trunc9 i).toNat : Int) = i % 512 := by
  simp only [trunc9, trunc, BitVec.toNat_ofInt]
  omega

theorem trunc9_eq_iff (i j : Int) : trunc9 i = trunc9 j ↔ i % 512 = j % 512 := by
  rw [← BitVec.toNat_inj, ← Int.natCast_inj, trunc9_toNat, trunc9_toNat]

/-- `asr(i, 7)` in the form `omega` reads. -/
theorem asr_seven (i : Int) : asr i blendShift = i / 128 := rfl

theorem blendSum_eq (a b c d : Int) : blendSum a b c d = (a - b) * c / 128 + d := rfl

/-- A channel AlphaBlend copies keeps its value (30_encoding.md R106). -/
theorem widen_eq_setWidth (c : U8) : widen c = c.setWidth 9 := by
  apply BitVec.eq_of_toNat_eq
  have h := trunc9_toNat (zext c)
  have := c.isLt
  simp only [widen, zext, BitVec.toNat_setWidth] at *
  omega

/-- Clamp's two modes agree on a channel that fits in 8 bits (46_clamp.md R237). -/
theorem extractLow_setWidth (c : U8) : (c.setWidth 9).extractLsb' 0 8 = c := by
  ext i h
  simp [h]
  omega

/-! ### Blend operands (30_encoding.md R98, R99, R108, R109) -/

@[simp] theorem decodeRgbSel_zero : decodeRgbSel 0#2 = .source := rfl
@[simp] theorem decodeRgbSel_one : decodeRgbSel 1#2 = .framebuffer := rfl
@[simp] theorem decodeRgbSel_two : decodeRgbSel 2#2 = .zero := rfl
@[simp] theorem decodeRgbSel_three : decodeRgbSel 3#2 = .zero := rfl
@[simp] theorem decodeAlphaSel_zero : decodeAlphaSel 0#2 = .sourceAlpha := rfl
@[simp] theorem decodeAlphaSel_one : decodeAlphaSel 1#2 = .framebufferAlpha := rfl
@[simp] theorem decodeAlphaSel_two : decodeAlphaSel 2#2 = .fixed := rfl
@[simp] theorem decodeAlphaSel_three : decodeAlphaSel 3#2 = .fixed := rfl

@[simp] theorem rgbOperand_source (src fb : U8) : rgbOperand .source src fb = zext src := rfl
@[simp] theorem rgbOperand_framebuffer (src fb : U8) : rgbOperand .framebuffer src fb = zext fb := rfl
@[simp] theorem rgbOperand_zero (src fb : U8) : rgbOperand .zero src fb = 0 := rfl
@[simp] theorem alphaOperand_sourceAlpha (fix srcA fbA : U8) :
    alphaOperand .sourceAlpha fix srcA fbA = zext srcA := rfl
@[simp] theorem alphaOperand_framebufferAlpha (fix srcA fbA : U8) :
    alphaOperand .framebufferAlpha fix srcA fbA = zext fbA := rfl
@[simp] theorem alphaOperand_fixed (fix srcA fbA : U8) :
    alphaOperand .fixed fix srcA fbA = zext fix := rfl

/-- The operands are 8-bit values, whatever is selected (44_alpha_blend.md R211: never negative). -/
theorem rgbOperand_range (sel : RgbSel) (src fb : U8) :
    0 ≤ rgbOperand sel src fb ∧ rgbOperand sel src fb ≤ 255 := by
  cases sel
  · exact ⟨zext_nonneg src, zext_u8_le src⟩
  · exact ⟨zext_nonneg fb, zext_u8_le fb⟩
  · exact ⟨le_refl 0, by simp⟩

theorem alphaOperand_range (sel : AlphaSel) (fix srcA fbA : U8) :
    0 ≤ alphaOperand sel fix srcA fbA ∧ alphaOperand sel fix srcA fbA ≤ 255 := by
  cases sel
  · exact ⟨zext_nonneg srcA, zext_u8_le srcA⟩
  · exact ⟨zext_nonneg fbA, zext_u8_le fbA⟩
  · exact ⟨zext_nonneg fix, zext_u8_le fix⟩

/-- One channel of AlphaBlend under the fields of a configuration, in the terms of 44_alpha_blend.md
R215. -/
theorem blendChannel_ofFields (f : CfgFields) (srcA fbA src fb : U8) :
    blendChannel (.ofFields f) srcA fbA src fb =
      if appliesOf f srcA then
        blend (colorOf f.a src fb) (colorOf f.b src fb) (alphaOperandOf f srcA fbA) (colorOf f.d src fb)
      else widen src := rfl

/-! ### Ports and lanes -/

/-- A lane after a step with `rst` low: its own registers and ports decide it
(47_array_and_config_load.md R241). -/
theorem State.advance_lane (next : LanePorts → Lane → Lane) (s : State) (l : Nat) :
    (s.advance next).lanes[l]? = s.lanes[l]?.map (next (s.ports.lane l)) := by
  simp [State.advance]

/-- A step keeps the number of lanes. -/
theorem State.advance_length (next : LanePorts → Lane → Lane) (s : State) :
    (s.advance next).lanes.length = s.lanes.length := by
  simp [State.advance]

theorem State.clockEdge_of_rst (next : LanePorts → Lane → Lane) (s : State)
    (h : s.ports.rst = true) : s.clockEdge next = s.resetEdge := by
  simp [State.clockEdge, h]

theorem State.clockEdge_of_run (next : LanePorts → Lane → Lane) (s : State)
    (h : s.ports.rst = false) : s.clockEdge next = s.advance next := by
  simp [State.clockEdge, h]

/-- A clock edge is a reset or a step; there is no third case (70_reset_and_hazards.md R270). -/
theorem State.clockEdge_cases (next : LanePorts → Lane → Lane) (s : State) :
    (s.ports.rst = true ∧ s.clockEdge next = s.resetEdge) ∨
    (s.ports.rst = false ∧ s.clockEdge next = s.advance next) := by
  cases h : s.ports.rst
  · exact .inr ⟨rfl, s.clockEdge_of_run next h⟩
  · exact .inl ⟨rfl, s.clockEdge_of_rst next h⟩

/-- The environment's script moves on by one step in every clock edge. -/
theorem State.clockEdge_env (next : LanePorts → Lane → Lane) (s : State) :
    (s.clockEdge next).env = s.env.tail := by
  rcases s.clockEdge_cases next with ⟨-, h⟩ | ⟨-, h⟩ <;> rw [h] <;> rfl

/-- `withWord` leaves `rst` low in the coming step. -/
theorem State.withWord_rst (w : CfgWord) (s : State) : (s.withWord w).ports.rst = false := by
  cases h : s.env <;> simp [State.withWord, State.ports, h, Ports.idle]

/-- What a meaning can do: the clock edge under the changed operations, and nothing else. -/
theorem edgeUnder_eq (change : Controls → Controls) (s : State) :
    edgeUnder change s = .next (s.clockEdge (laneStep s.params (change (.ofCfg s.cfg)))) := rfl

theorem edgeUnder_next {change : Controls → Controls} {s t : State}
    (h : edgeUnder change s = .next t) :
    t = s.clockEdge (laneStep s.params (change (.ofCfg s.cfg))) := by
  rw [edgeUnder_eq] at h
  injection h with h
  exact h.symm

/-! ### Decoding -/

/-- An operation the word selects is one its group selects. -/
theorem mem_decodeOps {i : Instr} {w : CfgWord} (h : i ∈ decodeOps w) :
    ∃ g ∈ Group.all, decodeGroup g w = some i := by
  simpa [decodeOps] using h

/-- A row that is selected matches the word by its mask (30_encoding.md R116). -/
theorem selectedRow_matches {g : Group} {w : CfgWord} {r : Row} (h : selectedRow g w = some r) :
    r ∈ rows g ∧ w &&& r.mask = r.pattern := by
  constructor
  · exact List.mem_of_find?_eq_some h
  · simpa [Row.selects] using List.find?_some h

/-- The operation a word is read as is one it selects. -/
theorem namedOperation_mem {n : Nat} {w : CfgWord} {i : Instr} (h : namedOperation n w = some i) :
    i ∈ decodeOps w := by
  have key : ∀ r ∈ (Group.all.filterMap (selectedRow · w)).reverse, r.build w ∈ decodeOps w := by
    intro r hr
    obtain ⟨g, hg, hs⟩ := List.mem_filterMap.1 (List.mem_reverse.1 hr)
    exact List.mem_filterMap.2 ⟨g, hg, by simp [decodeGroup, hs]⟩
  unfold namedOperation at h
  simp only at h
  split at h
  · rename_i r hr
    injection h with h
    exact h ▸ key r (List.mem_of_find?_eq_some hr)
  · obtain ⟨r, hr, rfl⟩ := Option.map_eq_some_iff.1 h
    exact key r (List.mem_of_find?_eq_some hr)

end Sys2Proof.Machine
end

