-- ==== Sys2Proof/Laws/PerInstr.lean ====
section
/-! SUPPORT. Facts about every operation as syntax, one lemma per constructor of `Instr`. -/

namespace Sys2Proof.Laws.EncodesItsRow

/-- The word of the operation selects a row of the operation's own group, and that row builds the
operation back from the word (30_encoding.md R116). -/
def Statement (i : Instr) : Prop :=
  ∃ r ∈ rows i.group, r.selects (encode i) = true ∧ r.build (encode i) = i

/-- A field placed beside bits that leave its place empty reads back. -/
theorem extract_placed {n lo : Nat} (k : CfgWord) (v : BitVec n) (hn : lo + n ≤ 128)
    (hk : k.extractLsb' lo n = 0#n) : (k ||| placed n lo v).extractLsb' lo n = v := by
  rw [BitVec.extractLsb'_or, hk, BitVec.zero_or]
  ext i hi
  have h : lo + i < 128 := by omega
  simp [placed, h, hi]

/-- A field placed outside a mask is not seen through it. -/
theorem placed_and {n lo : Nat} (mask : CfgWord) (v : BitVec n) (h : mask.extractLsb' lo n = 0#n) :
    placed n lo v &&& mask = 0#128 := by
  ext i hi
  simp only [placed, BitVec.getElem_and, BitVec.getElem_zero, Bool.and_eq_false_iff]
  by_cases hb : lo ≤ i ∧ i - lo < n
  · right
    have := congrArg (fun x => x.getLsbD (i - lo)) h
    simpa [hb.2, show lo + (i - lo) = i by omega, BitVec.getLsbD_eq_getElem, hi] using this
  · left
    simp only [BitVec.getElem_shiftLeft, BitVec.getElem_setWidth]
    by_cases hl : lo ≤ i
    · rw [BitVec.getLsbD_of_ge _ _ (by omega)]
      simp
    · simp [show i < lo by omega]

/-- A row's test reads only the bits of its mask, so operand bits outside it do not matter. -/
theorem selects_placed {n lo : Nat} (r : Row) (k : CfgWord) (v : BitVec n)
    (hm : r.mask.extractLsb' lo n = 0#n) (hk : k &&& r.mask = r.pattern) :
    r.selects (k ||| placed n lo v) = true := by
  simp [Row.selects, BitVec.and_or_distrib_right, placed_and r.mask v hm, hk]

theorem atOff : Statement .atOff :=
  ⟨⟨"AT.OFF", 0x1, 0x0, fun _ => .atOff⟩, by simp [Instr.group, rows], by decide, rfl⟩

theorem atNever : Statement .atNever :=
  ⟨⟨"AT.NEVER", 0xF, 0x1, fun _ => .atNever⟩, by simp [Instr.group, rows], by decide, rfl⟩

theorem atAlways : Statement .atAlways :=
  ⟨⟨"AT.ALWAYS", 0xF, 0x3, fun _ => .atAlways⟩, by simp [Instr.group, rows], by decide, rfl⟩

theorem atLess (aref : BitVec 8) : Statement (.atLess aref) :=
  ⟨⟨"AT.LESS", 0xF, 0x5, fun w => .atLess (operandAref w)⟩, by simp [Instr.group, rows],
    selects_placed _ _ _ (by decide) (by decide),
    congrArg Instr.atLess (extract_placed _ _ (by decide) (by decide))⟩

theorem atLequal (aref : BitVec 8) : Statement (.atLequal aref) :=
  ⟨⟨"AT.LEQUAL", 0xF, 0x7, fun w => .atLequal (operandAref w)⟩, by simp [Instr.group, rows],
    selects_placed _ _ _ (by decide) (by decide),
    congrArg Instr.atLequal (extract_placed _ _ (by decide) (by decide))⟩

theorem atEqual (aref : BitVec 8) : Statement (.atEqual aref) :=
  ⟨⟨"AT.EQUAL", 0xF, 0x9, fun w => .atEqual (operandAref w)⟩, by simp [Instr.group, rows],
    selects_placed _ _ _ (by decide) (by decide),
    congrArg Instr.atEqual (extract_placed _ _ (by decide) (by decide))⟩

theorem atGequal (aref : BitVec 8) : Statement (.atGequal aref) :=
  ⟨⟨"AT.GEQUAL", 0xF, 0xB, fun w => .atGequal (operandAref w)⟩, by simp [Instr.group, rows],
    selects_placed _ _ _ (by decide) (by decide),
    congrArg Instr.atGequal (extract_placed _ _ (by decide) (by decide))⟩

theorem atGreater (aref : BitVec 8) : Statement (.atGreater aref) :=
  ⟨⟨"AT.GREATER", 0xF, 0xD, fun w => .atGreater (operandAref w)⟩, by simp [Instr.group, rows],
    selects_placed _ _ _ (by decide) (by decide),
    congrArg Instr.atGreater (extract_placed _ _ (by decide) (by decide))⟩

theorem atNotequal (aref : BitVec 8) : Statement (.atNotequal aref) :=
  ⟨⟨"AT.NOTEQUAL", 0xF, 0xF, fun w => .atNotequal (operandAref w)⟩, by simp [Instr.group, rows],
    selects_placed _ _ _ (by decide) (by decide),
    congrArg Instr.atNotequal (extract_placed _ _ (by decide) (by decide))⟩

theorem afailKeep : Statement .afailKeep :=
  ⟨⟨"AFAIL.KEEP", 0x3000, 0x0, fun _ => .afailKeep⟩, by simp [Instr.group, rows], by decide, rfl⟩

theorem afailFbOnly : Statement .afailFbOnly :=
  ⟨⟨"AFAIL.FB_ONLY", 0x3000, 0x1000, fun _ => .afailFbOnly⟩, by simp [Instr.group, rows], by decide, rfl⟩

theorem afailZbOnly : Statement .afailZbOnly :=
  ⟨⟨"AFAIL.ZB_ONLY", 0x3000, 0x2000, fun _ => .afailZbOnly⟩, by simp [Instr.group, rows], by decide, rfl⟩

theorem afailRgbOnly (fbpsm : BitVec 6) : Statement (.afailRgbOnly fbpsm) :=
  ⟨⟨"AFAIL.RGB_ONLY", 0x3000, 0x3000, fun w => .afailRgbOnly (operandFbpsm w)⟩, by simp [Instr.group, rows],
    selects_placed _ _ _ (by decide) (by decide),
    congrArg Instr.afailRgbOnly (extract_placed _ _ (by decide) (by decide))⟩

theorem datOff : Statement .datOff :=
  ⟨⟨"DAT.OFF", 0x4000, 0x0, fun _ => .datOff⟩, by simp [Instr.group, rows], by decide, rfl⟩

theorem datExpect0 (fbpsm : BitVec 6) : Statement (.datExpect0 fbpsm) :=
  ⟨⟨"DAT.EXPECT0", 0xC000, 0x4000, fun w => .datExpect0 (operandFbpsm w)⟩, by simp [Instr.group, rows],
    selects_placed _ _ _ (by decide) (by decide),
    congrArg Instr.datExpect0 (extract_placed _ _ (by decide) (by decide))⟩

theorem datExpect1 (fbpsm : BitVec 6) : Statement (.datExpect1 fbpsm) :=
  ⟨⟨"DAT.EXPECT1", 0xC000, 0xC000, fun w => .datExpect1 (operandFbpsm w)⟩, by simp [Instr.group, rows],
    selects_placed _ _ _ (by decide) (by decide),
    congrArg Instr.datExpect1 (extract_placed _ _ (by decide) (by decide))⟩

theorem ztOff : Statement .ztOff :=
  ⟨⟨"ZT.OFF", 0x10000, 0x0, fun _ => .ztOff⟩, by simp [Instr.group, rows], by decide, rfl⟩

theorem ztNever : Statement .ztNever :=
  ⟨⟨"ZT.NEVER", 0x70000, 0x10000, fun _ => .ztNever⟩, by simp [Instr.group, rows], by decide, rfl⟩

theorem ztAlways : Statement .ztAlways :=
  ⟨⟨"ZT.ALWAYS", 0x70000, 0x30000, fun _ => .ztAlways⟩, by simp [Instr.group, rows], by decide, rfl⟩

theorem ztGequal : Statement .ztGequal :=
  ⟨⟨"ZT.GEQUAL", 0x70000, 0x50000, fun _ => .ztGequal⟩, by simp [Instr.group, rows], by decide, rfl⟩

theorem ztGreater : Statement .ztGreater :=
  ⟨⟨"ZT.GREATER", 0x70000, 0x70000, fun _ => .ztGreater⟩, by simp [Instr.group, rows], by decide, rfl⟩

theorem blendOff : Statement .blendOff :=
  ⟨⟨"BLEND.OFF", 0x80000, 0x0, fun _ => .blendOff⟩, by simp [Instr.group, rows], by decide, rfl⟩

theorem blendAll : Statement .blendAll :=
  ⟨⟨"BLEND.ALL", 0x180000, 0x80000, fun _ => .blendAll⟩, by simp [Instr.group, rows], by decide, rfl⟩

theorem blendPabe : Statement .blendPabe :=
  ⟨⟨"BLEND.PABE", 0x180000, 0x180000, fun _ => .blendPabe⟩, by simp [Instr.group, rows], by decide, rfl⟩

theorem aSrc : Statement .aSrc :=
  ⟨⟨"A.SRC", 0x600000, 0x0, fun _ => .aSrc⟩, by simp [Instr.group, rows], by decide, rfl⟩

theorem aFb : Statement .aFb :=
  ⟨⟨"A.FB", 0x600000, 0x200000, fun _ => .aFb⟩, by simp [Instr.group, rows], by decide, rfl⟩

theorem aZero : Statement .aZero :=
  ⟨⟨"A.ZERO", 0x600000, 0x400000, fun _ => .aZero⟩, by simp [Instr.group, rows], by decide, rfl⟩

theorem aRsvd : Statement .aRsvd :=
  ⟨⟨"A.RSVD", 0x600000, 0x600000, fun _ => .aRsvd⟩, by simp [Instr.group, rows], by decide, rfl⟩

theorem bSrc : Statement .bSrc :=
  ⟨⟨"B.SRC", 0x1800000, 0x0, fun _ => .bSrc⟩, by simp [Instr.group, rows], by decide, rfl⟩

theorem bFb : Statement .bFb :=
  ⟨⟨"B.FB", 0x1800000, 0x800000, fun _ => .bFb⟩, by simp [Instr.group, rows], by decide, rfl⟩

theorem bZero : Statement .bZero :=
  ⟨⟨"B.ZERO", 0x1800000, 0x1000000, fun _ => .bZero⟩, by simp [Instr.group, rows], by decide, rfl⟩

theorem bRsvd : Statement .bRsvd :=
  ⟨⟨"B.RSVD", 0x1800000, 0x1800000, fun _ => .bRsvd⟩, by simp [Instr.group, rows], by decide, rfl⟩

theorem cAs : Statement .cAs :=
  ⟨⟨"C.AS", 0x6000000, 0x0, fun _ => .cAs⟩, by simp [Instr.group, rows], by decide, rfl⟩

theorem cAd : Statement .cAd :=
  ⟨⟨"C.AD", 0x6000000, 0x2000000, fun _ => .cAd⟩, by simp [Instr.group, rows], by decide, rfl⟩

theorem cFix (fix : BitVec 8) : Statement (.cFix fix) :=
  ⟨⟨"C.FIX", 0x6000000, 0x4000000, fun w => .cFix (operandFix w)⟩, by simp [Instr.group, rows],
    selects_placed _ _ _ (by decide) (by decide),
    congrArg Instr.cFix (extract_placed _ _ (by decide) (by decide))⟩

theorem cRsvd (fix : BitVec 8) : Statement (.cRsvd fix) :=
  ⟨⟨"C.RSVD", 0x6000000, 0x6000000, fun w => .cRsvd (operandFix w)⟩, by simp [Instr.group, rows],
    selects_placed _ _ _ (by decide) (by decide),
    congrArg Instr.cRsvd (extract_placed _ _ (by decide) (by decide))⟩

theorem dSrc : Statement .dSrc :=
  ⟨⟨"D.SRC", 0x18000000, 0x0, fun _ => .dSrc⟩, by simp [Instr.group, rows], by decide, rfl⟩

theorem dFb : Statement .dFb :=
  ⟨⟨"D.FB", 0x18000000, 0x8000000, fun _ => .dFb⟩, by simp [Instr.group, rows], by decide, rfl⟩

theorem dZero : Statement .dZero :=
  ⟨⟨"D.ZERO", 0x18000000, 0x10000000, fun _ => .dZero⟩, by simp [Instr.group, rows], by decide, rfl⟩

theorem dRsvd : Statement .dRsvd :=
  ⟨⟨"D.RSVD", 0x18000000, 0x18000000, fun _ => .dRsvd⟩, by simp [Instr.group, rows], by decide, rfl⟩

theorem dthOff : Statement .dthOff :=
  ⟨⟨"DTH.OFF", 0x2000000000, 0x0, fun _ => .dthOff⟩, by simp [Instr.group, rows], by decide, rfl⟩

theorem dthOn (dimx : BitVec 64) : Statement (.dthOn dimx) :=
  ⟨⟨"DTH.ON", 0x2000000000, 0x2000000000, fun w => .dthOn (operandDimx w)⟩, by simp [Instr.group, rows],
    selects_placed _ _ _ (by decide) (by decide),
    congrArg Instr.dthOn (extract_placed _ _ (by decide) (by decide))⟩

theorem clampMask : Statement .clampMask :=
  ⟨⟨"CLAMP.MASK", 0x4000000000, 0x0, fun _ => .clampMask⟩, by simp [Instr.group, rows], by decide, rfl⟩

theorem clampClamp : Statement .clampClamp :=
  ⟨⟨"CLAMP.CLAMP", 0x4000000000, 0x4000000000, fun _ => .clampClamp⟩, by simp [Instr.group, rows], by decide, rfl⟩

theorem fba0 : Statement .fba0 :=
  ⟨⟨"FBA.0", 0x8000000000, 0x0, fun _ => .fba0⟩, by simp [Instr.group, rows], by decide, rfl⟩

theorem fba1 : Statement .fba1 :=
  ⟨⟨"FBA.1", 0x8000000000, 0x8000000000, fun _ => .fba1⟩, by simp [Instr.group, rows], by decide, rfl⟩

end Sys2Proof.Laws.EncodesItsRow
end

