-- ==== Sys2Proof/Tests/Slice0.lean ====
section
/-! SUPPORT. Tests. Expected values are those of 95_test_vectors.md (the section is named at each test)
or are written out bit by bit from 10_state.md R43 and 30_encoding.md R95 to R103; none is a value the
model gave. The last part shows, for every statement with hypotheses, a case that meets them. -/

namespace Sys2Proof.Tests

open Sys2Proof Sys2Proof.Machine Sys2Proof.Safety

/-! ### Well-formedness: each check refuses an ill-formed list and accepts a well-formed one -/

theorem test_wf_two_of_one_group : distinctGroups [.atOff, .fba1, .atNever] = false := by decide
theorem test_wf_groups_distinct : distinctGroups [.atNever, .fba1] = true := by decide
theorem test_wf_formats_differ : formatsAgree [.afailRgbOnly 0, .datExpect0 1] = false := by decide
theorem test_wf_formats_same : formatsAgree [.afailRgbOnly 63, .datExpect1 63] = true := by decide
theorem test_wf_group_missing : allGroups ((decodeOps 0).drop 1) = false := by decide
theorem test_wf_group_order : allGroups (decodeOps 0).reverse = false := by decide
theorem test_wf_ops_refused : wellFormedOps [.datExpect0 2, .datExpect1 2] = false := by decide
theorem test_wf_ops_accepted : wellFormedOps [.dthOn 7, .atLess 9] = true := by decide
theorem test_wf_selection_refused :
    wellFormedSelection [.atOff, .afailRgbOnly 0, .datExpect0 1, .ztOff, .blendOff, .aSrc, .bSrc, .cAs,
      .dSrc, .dthOff, .clampMask, .fba0] = false := by decide
theorem test_wf_selection_accepted : wellFormedSelection (decodeOps 0) = true := by decide

/-! ### Decoding: every operation's word, written out from 10_state.md R43 and 30_encoding.md R95 to R103 -/

/-- Group `g` reads each word as the operation beside it. -/
def reads (g : Group) (l : List (CfgWord × Instr)) : Bool :=
  l.all fun p => decodeGroup g p.1 == some p.2

theorem test_decode_at : reads .alphaTest
  [(0b0000, .atOff), (0b1110, .atOff), (0b0001, .atNever), (0b0011, .atAlways),
   (0b1010_0101_0101, .atLess 0xA5), (0b0000_0001_0111, .atLequal 1), (0b1000_0000_1001, .atEqual 0x80),
   (0b0100_0000_1011, .atGequal 0x40), (0b0010_0000_1101, .atGreater 0x20),
   (0b1111_1110_1111, .atNotequal 0xFE)] = true := by decide

theorem test_decode_afail : reads .alphaFail
  [(0b00_0000_0000_0000, .afailKeep), (0b01_0000_0000_0000, .afailFbOnly),
   (0b10_0000_0000_0000, .afailZbOnly), (0b11_0000_0000_0000, .afailRgbOnly 0),
   (0b10_0101 <<< 40 ||| 0b11 <<< 12, .afailRgbOnly 0b10_0101)] = true := by decide

theorem test_decode_dat : reads .dstTest
  [(0b00 <<< 14, .datOff), (0b10 <<< 14, .datOff),
   (0b00_0001 <<< 40 ||| 0b01 <<< 14, .datExpect0 1), (0b10_0000 <<< 40 ||| 0b11 <<< 14, .datExpect1 32)] = true := by decide

theorem test_decode_zt : reads .depthTest
  [(0b000 <<< 16, .ztOff), (0b110 <<< 16, .ztOff), (0b001 <<< 16, .ztNever),
   (0b011 <<< 16, .ztAlways), (0b101 <<< 16, .ztGequal), (0b111 <<< 16, .ztGreater)] = true := by decide

theorem test_decode_blend : reads .blend
  [(0b00 <<< 19, .blendOff), (0b10 <<< 19, .blendOff), (0b01 <<< 19, .blendAll),
   (0b11 <<< 19, .blendPabe)] = true := by decide

theorem test_decode_a : reads .operandA
  [(0b00 <<< 21, .aSrc), (0b01 <<< 21, .aFb), (0b10 <<< 21, .aZero), (0b11 <<< 21, .aRsvd)] = true := by decide

theorem test_decode_b : reads .operandB
  [(0b00 <<< 23, .bSrc), (0b01 <<< 23, .bFb), (0b10 <<< 23, .bZero), (0b11 <<< 23, .bRsvd)] = true := by decide

theorem test_decode_c : reads .operandC
  [(0b00 <<< 25, .cAs), (0b01 <<< 25, .cAd),
   (0b0011_1100 <<< 29 ||| 0b10 <<< 25, .cFix 0x3C), (0b1000_0001 <<< 29 ||| 0b11 <<< 25, .cRsvd 0x81)] = true := by decide

theorem test_decode_d : reads .operandD
  [(0b00 <<< 27, .dSrc), (0b01 <<< 27, .dFb), (0b10 <<< 27, .dZero), (0b11 <<< 27, .dRsvd)] = true := by decide

theorem test_decode_dth : reads .dither
  [(0b0 <<< 37, .dthOff), (0x1234 <<< 64, .dthOff), (0x8000000000000001 <<< 64 ||| 0b1 <<< 37, .dthOn 0x8000000000000001)] = true := by decide

theorem test_decode_clamp : reads .clamp
  [(0b0 <<< 38, .clampMask), (0b1 <<< 38, .clampClamp)] = true := by decide

theorem test_decode_fba : reads .alphaFix
  [(0b0 <<< 39, .fba0), (0b1 <<< 39, .fba1)] = true := by decide

/-- 30_encoding.md R98, R99, R108, R109: the members, in the order of their numbers, and the value 3. -/
theorem test_decode_selectors :
    [0, 1, 2, 3].map decodeRgbSel = [.source, .framebuffer, .zero, .zero] ∧
    [0, 1, 2, 3].map decodeAlphaSel = [.sourceAlpha, .framebufferAlpha, .fixed, .fixed] := by decide

/-- 95_test_vectors.md 2.8 E1. -/
theorem test_decode_e1_fields : unpackCfg 0x172635044053627100024267893F6A5B =
    { ate := true, atst := 5, aref := 0xA5, afail := 2, date := true, datm := false, zte := true,
      ztst := 3, abe := true, pabe := true, a := 1, b := 2, c := 0, d := 1, fix := 0x3C, dthe := true,
      clamp := true, fba := false, fbpsm := 2, zpsm := 9, reserved := 0, dimx := 0x1726350440536271 } := by
  decide

/-- 95_test_vectors.md 2.8 E1: the matrix, row by row. -/
theorem test_decode_e1_matrix :
    [0, 1, 2, 3].map (fun r => [0, 1, 2, 3].map fun c => (ditherCell 0x1726350440536271 r c).toInt) =
      [[1, -1, 2, -2], [3, -3, 0, -4], [-4, 0, -3, 3], [-2, 2, -1, 1]] := by decide

/-- 95_test_vectors.md 2.8 E2, program P1: the word of one named operation. -/
theorem test_encode_p1 : encode (.atGequal 0x40) = 0x040B := by decide

/-- 95_test_vectors.md 2.8 E2, program P3: the word of the operations it names. -/
theorem test_encode_p3 :
    encodeOps [.atGreater 0x20, .afailRgbOnly 0, .datExpect1 0, .ztGequal] = 0x0005F20D := by decide

/-- 95_test_vectors.md 2.8 E2, program P2. -/
theorem test_decode_p2 : decodeOps 0x4567012376543210000000E008880000 =
    [.atOff, .afailKeep, .datOff, .ztOff, .blendAll, .aSrc, .bFb, .cAs, .dFb,
     .dthOn 0x4567012376543210, .clampClamp, .fba1] := by decide

/-- The interface's decoder: an operation's own bits, the zero word by its length, and what it refuses. -/
theorem test_table_word :
    decodeTableWord 16 0x040B = some (.atGequal 0x40) ∧ decodeTableWord 40 0x8000000000 = some .fba1 ∧
    decodeTableWord 8 0 = some .atOff ∧ decodeTableWord 16 0 = some .datOff ∧
    decodeTableWord 8 0x100 = none ∧ decodeTableWord 136 0 = none := by decide

/-! ### One step of one lane -/

/-- A block one lane wide that holds `w`, with `lane` in its registers and `p` at its ports. -/
def small (w : CfgWord) (p : LanePorts) (lane : Lane) : State := ⟨[lane], w, [{ lanes := [p] }], {}⟩

/-- What `get` reads from the lane after the step; `none` if there is no next state. -/
def after {α : Type} (get : Lane → α) : Host.Outcome State Fault Refusal → Option α
  | .next t => t.lanes[0]?.map get
  | _ => none

/-- The flags of a fragment, in the order of the vectors. -/
def we {n : Nat} (f : Frag n) : Bool × Bool × Bool := (f.wc, f.wa, f.wz)

/-- The channels of a fragment as numbers. -/
def rgb {n : Nat} (f : Frag n) : List Nat := [f.r.toNat, f.g.toNat, f.b.toNat]

/-- A fragment with all flags true and the given alpha. -/
def withAlpha {n : Nat} (a : U8) : Frag n := { a := a, wc := true, wa := true, wz := true }

/-- Every operation the word selects, run on its own, leaves `expected` in the lane. -/
def every {α : Type} [DecidableEq α] (w : CfgWord) (p : LanePorts) (lane : Lane) (get : Lane → α)
    (expected : α) : Bool :=
  (decodeOps w).all fun i => after get (exec i (small w p lane)) == some expected

/-- The alpha test of `i` on the five alpha values of 95_test_vectors.md 2.1a, from `wc` in S1. -/
def alphaRow (i : Instr) : List (Option Bool) :=
  [0x00, 0x7F, 0x80, 0x81, 0xFF].map fun a =>
    after (·.s1.wc) (exec i (small 0 { fragIn := withAlpha a } {}))

/-! 95_test_vectors.md 2.1a, AREF = 0x80, KEEP. -/

theorem test_at_off : alphaRow .atOff =
    [some true, some true, some true, some true, some true] := by decide
theorem test_at_never : alphaRow .atNever =
    [some false, some false, some false, some false, some false] := by decide
theorem test_at_always : alphaRow .atAlways =
    [some true, some true, some true, some true, some true] := by decide
theorem test_at_less : alphaRow (.atLess 0x80) =
    [some true, some true, some false, some false, some false] := by decide
theorem test_at_lequal : alphaRow (.atLequal 0x80) =
    [some true, some true, some true, some false, some false] := by decide
theorem test_at_equal : alphaRow (.atEqual 0x80) =
    [some false, some false, some true, some false, some false] := by decide
theorem test_at_gequal : alphaRow (.atGequal 0x80) =
    [some false, some false, some true, some true, some true] := by decide
theorem test_at_greater : alphaRow (.atGreater 0x80) =
    [some false, some false, some false, some true, some true] := by decide
theorem test_at_notequal : alphaRow (.atNotequal 0x80) =
    [some true, some true, some false, some true, some true] := by decide

/-- The fail-mode `i` on a failing test, for the inputs (1,1,1), (1,0,1), (0,1,1), (1,1,0). -/
def failRow (i : Instr) : List (Option (Bool × Bool × Bool)) :=
  [(true, true, true), (true, false, true), (false, true, true), (true, true, false)].map fun e =>
    after (we ·.s1) (exec i (small 0x1 { fragIn := { wc := e.1, wa := e.2.1, wz := e.2.2 } } {}))

/-! 95_test_vectors.md 2.1c. -/

theorem test_afail_keep : failRow .afailKeep =
    [some (false, false, false), some (false, false, false),
     some (false, false, false), some (false, false, false)] := by decide
theorem test_afail_fb_only : failRow .afailFbOnly =
    [some (true, true, false), some (true, false, false),
     some (false, true, false), some (true, true, false)] := by decide
theorem test_afail_zb_only : failRow .afailZbOnly =
    [some (false, false, true), some (false, false, true),
     some (false, false, true), some (false, false, false)] := by decide
theorem test_afail_rgb_only_rgba32 : failRow (.afailRgbOnly 0) =
    [some (true, false, false), some (true, false, false),
     some (false, false, false), some (true, false, false)] := by decide
theorem test_afail_rgb_only_other : failRow (.afailRgbOnly 63) =
    [some (true, true, false), some (true, false, false),
     some (false, true, false), some (true, true, false)] := by decide

/-- The destination alpha test of `i` on the four alpha values of 95_test_vectors.md 2.2, from `wz` in S2. -/
def dstRow (i : Instr) : List (Option Bool) :=
  [0x00, 0x7F, 0x80, 0xFF].map fun a => after (·.s2.wz) (exec i (small 0 {} { s1 := withAlpha a }))

/-! 95_test_vectors.md 2.2. -/

theorem test_dat_off : dstRow .datOff =
    [some true, some true, some true, some true] := by decide
theorem test_dat_expect0 : dstRow (.datExpect0 2) =
    [some true, some true, some false, some false] := by decide
theorem test_dat_expect0_no_alpha : dstRow (.datExpect0 1) =
    [some true, some true, some true, some true] := by decide
theorem test_dat_expect1 : dstRow (.datExpect1 0) =
    [some false, some false, some true, some true] := by decide
theorem test_dat_expect1_no_alpha : dstRow (.datExpect1 1) =
    [some true, some true, some true, some true] := by decide

/-- The depth test of `i` on five pairs of 95_test_vectors.md 2.3 (equal, below, above, and the two that
tell an unsigned comparison from a signed one), from `wa` in S3. -/
def depthRow (i : Instr) : List (Option Bool) :=
  [(0x1000, 0x1000), (0xFFF, 0x1000), (0x1001, 0x1000), (0x80000000, 0x7FFFFFFF),
   (0x7FFFFFFF, 0x80000000)].map fun p =>
    after (·.s3.wa) (exec i (small 0 { zrefIn := p.2 } { s2 := { withAlpha 0 with z := p.1 } }))

/-! 95_test_vectors.md 2.3. -/

theorem test_zt_off : depthRow .ztOff =
    [some true, some true, some true, some true, some true] := by decide
theorem test_zt_never : depthRow .ztNever =
    [some false, some false, some false, some false, some false] := by decide
theorem test_zt_always : depthRow .ztAlways =
    [some true, some true, some true, some true, some true] := by decide
theorem test_zt_gequal : depthRow .ztGequal =
    [some true, some false, some true, some true, some false] := by decide
theorem test_zt_greater : depthRow .ztGreater =
    [some false, some false, some true, some true, some false] := by decide

/-- S4 of every operation of the word `w`, for the given source, framebuffer and their alphas. -/
def blends (w : CfgWord) (src : U8 × U8 × U8) (srcA : U8) (fb : U8 × U8 × U8) (fbA : U8)
    (expected : List Nat) : Bool :=
  every w { fbIn := ⟨fb.1, fb.2.1, fb.2.2, fbA⟩ }
    { s3 := { r := src.1, g := src.2.1, b := src.2.2, a := srcA } } (rgb ·.s4) expected

/-! 95_test_vectors.md 2.4: the vector's number names the test. -/

theorem test_blend_b1 : blends 0x001015080000 (200, 0, 0) 0x00 (0, 0, 0) 0x00
    [200, 0, 0] = true := by decide
theorem test_blend_b4 : blends 0x000008880000 (200, 100, 0) 0xFF (100, 200, 255) 0x00
    [299, 0, 258] = true := by decide
theorem test_blend_b7 : blends 0x00000A880000 (255, 0, 128) 0x00 (0, 255, 127) 0x40
    [127, 127, 127] = true := by decide
theorem test_blend_b11 : blends 0x00102C880000 (0, 1, 2) 0x00 (1, 0, 3) 0x00
    [511, 1, 1] = true := by decide
theorem test_blend_b12 : blends 0x001FF4C80000 (9, 9, 9) 0x00 (255, 1, 128) 0x00
    [3, 510, 257] = true := by decide
theorem test_blend_b15 : blends 0x001FED080000 (255, 128, 1) 0x00 (255, 255, 255) 0x00
    [251, 510, 256] = true := by decide
theorem test_blend_b17 : blends 0x001004280000 (255, 0, 10) 0x00 (0, 255, 20) 0x00
    [0, 255, 20] = true := by decide
theorem test_blend_b21 : blends 0x001004E80000 (10, 20, 30) 0x00 (1, 2, 3) 0x00
    [9, 18, 27] = true := by decide
theorem test_blend_b22 : blends 0x001015880000 (10, 20, 30) 0x00 (1, 2, 3) 0x00
    [10, 20, 30] = true := by decide
theorem test_blend_b23 : blends 0x000817080000 (200, 100, 50) 0x00 (1, 2, 3) 0x00
    [100, 50, 25] = true := by decide
theorem test_blend_b24 : blends 0x00101D080000 (10, 20, 30) 0x00 (1, 2, 3) 0x00
    [10, 20, 30] = true := by decide

/-! 95_test_vectors.md 2.4b: A = ZERO, B = ZERO, C = AS, D = FB. -/

theorem test_blend_off : blends 0x9500000 (1, 2, 3) 0xFF (9, 9, 9) 0 [1, 2, 3] = true := by decide
theorem test_blend_all : blends 0x9480000 (1, 2, 3) 0x7F (9, 9, 9) 0 [9, 9, 9] = true := by decide
theorem test_blend_pabe_low : blends 0x9580000 (1, 2, 3) 0x7F (9, 9, 9) 0 [1, 2, 3] = true := by decide
theorem test_blend_pabe_high : blends 0x9580000 (1, 2, 3) 0x80 (9, 9, 9) 0 [9, 9, 9] = true := by decide

/-- S5 of every operation of the word `w`, for a position and three channels in S4. -/
def dithers (w : CfgWord) (x y : Coord) (c : U9 × U9 × U9) (expected : List Nat) : Bool :=
  every w {} { s4 := { x := x, y := y, r := c.1, g := c.2.1, b := c.2.2 } } (rgb ·.s5) expected

/-- 95_test_vectors.md 2.5b, x = 0x0020, y = 0x0010: -2, and 2.5a at c = 0 and c = 1. -/
theorem test_dither_index :
    dithers 0x45670123765432100000002000000000 0x20 0x10 (100, 0, 1) [98, 510, 511] = true := by decide

/-- 95_test_vectors.md 2.5b, x = 0x001F, y = 0x002F: +2, and 2.5a at c = 509 and c = 511. -/
theorem test_dither_wrap :
    dithers 0x45670123765432100000002000000000 0x1F 0x2F (100, 509, 511) [102, 511, 1] = true := by decide

/-- S5's red channel after a step of the block with the given DITHER_COORD_LSB, under the word of
95_test_vectors.md 2.5b, for a fragment with red 100 at the given position. -/
def steppedRed (lsb : Nat) (pos : Coord × Coord) : Option Nat :=
  after (·.s5.r.toNat) (step { small 0x45670123765432100000002000000000 {}
    { s4 := { x := pos.1, y := pos.2, r := 100 } } with params := ⟨lsb⟩ })

/-- 95_test_vectors.md 2.5b, four of its rows, in the columns for both values of the parameter. -/
theorem test_dither_parameter :
    [(0x0010, 0x0000), (0x000F, 0x000F), (0x001F, 0x002F), (0x8000, 0x0010)].map (steppedRed 4) =
      [some 101, some 100, some 102, some 96] ∧
    [(0x0010, 0x0000), (0x000F, 0x000F), (0x001F, 0x002F), (0x8000, 0x0010)].map (steppedRed 0) =
      [some 100, some 96, some 96, some 100] := by decide

/-- 95_test_vectors.md 2.8 E3: bit 3 of a cell is ignored. -/
theorem test_dither_reserved_bit :
    dithers 0x00000000000000080000002000000000 0 0 (100, 100, 100) [100, 100, 100] = true := by decide

/-- 95_test_vectors.md 2.5: with DTHE = 0 the output equals the input. -/
theorem test_dither_off :
    dithers 0x45670123765432100000000000000000 0x20 0x10 (100, 0, 511) [100, 0, 511] = true := by decide

/-- S6 of every operation of the word `w`, for an alpha and three channels in S5. -/
def clamps (w : CfgWord) (a : U8) (c : U9 × U9 × U9) (expected : List Nat × U8) : Bool :=
  every w {} { s5 := { r := c.1, g := c.2.1, b := c.2.2, a := a } } (fun l => (rgb l.s6, l.s6.a)) expected

/-! 95_test_vectors.md 2.6a and 2.6b. -/

theorem test_clamp_mask : clamps 0 0xC3 (300, 256, 510) ([44, 0, 254], 0x43) = true := by decide
theorem test_clamp_clamp : clamps 0x4000000000 0x80 (300, 256, 254) ([255, 255, 254], 0x00) = true := by
  decide
theorem test_fba_1 : clamps 0x8000000000 0x43 (44, 511, 383) ([44, 255, 127], 0xC3) = true := by decide
theorem test_fba_1_set : clamps 0xC000000000 0x80 (0, 511, 255) ([0, 255, 255], 0x80) = true := by decide

/-- 95_test_vectors.md 2.7, N5 and N11: the literal reading beside the one not adopted. -/
theorem test_readings : (clampSaturate (trunc9 (-509)), altClamp (-509)) = (3, 0) ∧
    (clampSaturate (trunc9 763), altClamp 763) = (251, 255) := by decide

/-! ### Loads and resets -/

/-- The fragment of 95_test_vectors.md 2.9 T1. -/
def t1 : Frag8 := ⟨1, 2, 3, 4, 5, 6, 0x87, true, false, true⟩

/-- A block after reset whose step presents T1 under the given `rst`, `cfg_load` and `cfg_data`. -/
def presenting (rst load : Bool) (w : CfgWord) : State :=
  ⟨[{}], 0, [⟨rst, load, w, [{ fragIn := t1 }]⟩], {}⟩

/-- The configuration after a step. -/
def cfgAfter : Host.Outcome State Fault Refusal → Option CfgWord
  | .next t => some t.cfg
  | _ => none

/-- 95_test_vectors.md 2.9 T2: the step evaluates with the old `CFG`; the new one is held after it. -/
theorem test_load : after (·.s1) (step (presenting false true 1)) = some t1 ∧
    cfgAfter (step (presenting false true 1)) = some 1 := by decide

/-- 10_state.md R41: without a load `CFG` keeps its value. -/
theorem test_no_load : cfgAfter (step (presenting false false 1)) = some 0 := by decide

/-- 95_test_vectors.md 2.9 T3: reset in the same edge as a load clears everything. -/
theorem test_reset_over_load : after (·.s1) (step (presenting true true 1)) = some {} ∧
    cfgAfter (step (presenting true true 1)) = some 0 := by decide

/-- 95_test_vectors.md 2.9 T4: the depth reference is the one of the step that evaluates the stage. -/
theorem test_step_zref :
    every 0x50000 { zrefIn := 0x10 } { s2 := { t1 with z := 0x10 } } (we ·.s3) (true, false, true) = true ∧
    every 0x50000 { zrefIn := 0x11 } { s2 := { t1 with z := 0x10 } } (we ·.s3) (false, false, false) = true := by
  decide

/-- 95_test_vectors.md 2.9 T1: the last of its six steps. -/
theorem test_step_out : every 0 {} { s5 := ⟨1, 2, 3, 4, 5, 6, 0x87, true, false, true⟩ } (·.s6)
    ⟨1, 2, 3, 4, 5, 6, 0x07, true, false, true⟩ = true := by decide

/-! ### Witnesses: for every statement with hypotheses, a case that meets them all -/

/-- A live fragment at the port and in every register. -/
def busyLane : Lane := ⟨t1, t1, t1, ⟨1, 2, 3, 4, 5, 6, 0x87, true, false, true⟩,
  ⟨1, 2, 3, 4, 5, 511, 0x87, true, false, true⟩, t1⟩

/-- A two-lane block under P1's word, with a live fragment everywhere and a load in the coming step. -/
def busy (rst load : Bool) : State :=
  ⟨[busyLane, {}], 0x040B, [⟨rst, load, 1, [{ fragIn := t1 }, { fragIn := t1 }]⟩, {}], {}⟩

theorem witness_StepRunsEverySelectedOperation :
    .atGequal 0x40 ∈ decodeOps (busy false true).cfg ∧ .fba0 ∈ decodeOps (busy true false).cfg := by decide

theorem witness_StepWritesAllStageRegisters :
    (busy false true).ports.rst = false ∧ (busy false true).lanes[0]? = some busyLane ∧
    (busy false true).lanes[1]? = some Lane.zero ∧ (busy false false).ports.rst = false := by decide

theorem witness_ResetEdgeClearsEverything : (busy true true).ports.rst = true := by decide

theorem witness_ResetStateAndResetPass : Lane.zero ∈ (State.resetWide ⟨0⟩ 2).lanes := by decide

theorem witness_LoadReplacesTheConfigurationAfterTheStep :
    ((busy false true).ports.rst = false ∧ (busy false true).ports.cfgLoad = true ∧
      (busy false true).lanes[1]? = some Lane.zero) ∧
    (busy false false).ports.rst = false ∧ (busy false false).ports.cfgLoad = false := by decide

theorem witness_EveryEdgeKeepsTheLanes :
    (∃ t, step (busy false true) = .next t) ∧ ∃ t, step (busy true true) = .next t :=
  ⟨⟨_, rfl⟩, ⟨_, rfl⟩⟩

theorem witness_FetchedWordIsRunByTheNextStep :
    decodeTableWord 16 0x040B = some (.atGequal 0x40) ∧ decodeTableWord 1 0 = some .atOff ∧
    decodeTableWord 128 (2 ^ 128 - 1) = some .fba1 := by decide

/-- A list that names three groups, one that names none, and a group each leaves out. -/
theorem witness_OperationListMeansItsWord :
    (wellFormedOps [.fba1, .afailRgbOnly 63, .datExpect1 63] = true ∧
      ∀ i ∈ [Instr.fba1, .afailRgbOnly 63, .datExpect1 63], i.group ≠ .alphaTest) ∧
    wellFormedOps [] = true ∧ ∀ i ∈ ([] : List Instr), i.group ≠ .dither := by decide

/-- An operation with the shared field, at its two ends, and one without it. -/
theorem witness_EveryOperationIsItsWordInTheConfiguration :
    (∀ f, Instr.format? (.afailRgbOnly 0) = some f → f = (unpackCfg (busy false true).cfg).fbpsm) ∧
    (∀ f, Instr.format? (.datExpect1 63) = some f →
      f = (unpackCfg (small (BitVec.allOnes 128) {} {}).cfg).fbpsm) ∧
    (∀ f, Instr.format? .fba1 = some f → f = (unpackCfg (busy false true).cfg).fbpsm) :=
  ⟨fun _ h => by injection h with h; exact h ▸ rfl, fun _ h => by injection h with h; exact h ▸ rfl,
   fun _ h => by cases h⟩

/-- 95_test_vectors.md 2.8 E3, both words of it. -/
theorem witness_ReservedBitsAndZpsmAreIgnored :
    0x0000000000000000FFFC000000000000#128 &&& ~~~unreadBits = 0 &&& ~~~unreadBits ∧
    0x00000000000000080000002000000000#128 &&& ~~~unreadBits = 0x2000000000 &&& ~~~unreadBits := by decide

/-- Every unit disabled under fields that are not zero. -/
theorem witness_FieldsOfDisabledUnitsAreIgnored :
    let f : CfgFields := unpackCfg (BitVec.allOnes 128 ^^^ 0x2000094001#128)
    f.ate = false ∧ f.date = false ∧ f.zte = false ∧ f.abe = false ∧ f.dthe = false ∧ f.aref = 255 := by
  decide

theorem witness_AlphaTestOffNeverAlways : (busy false true).ports.rst = false ∧
    (small 0 { fragIn := t1 } busyLane).ports.rst = false := by decide

theorem witness_AlphaTestComparisons : (busy false true).ports.rst = false ∧
    (small 0 { fragIn := t1 } busyLane).ports.rst = false := by decide

theorem witness_AlphaFailModes : (busy false true).ports.rst = false ∧
    (small 0 { fragIn := t1 } busyLane).ports.rst = false := by decide

theorem witness_DestinationAlphaTestOperations : (busy false true).ports.rst = false ∧
    (small 0 { fragIn := t1 } busyLane).ports.rst = false := by decide

theorem witness_DepthTestOperations : (busy false true).ports.rst = false ∧
    (small 0 { fragIn := t1 } busyLane).ports.rst = false := by decide

theorem witness_BlendEnableOperations : (busy false true).ports.rst = false ∧
    (small 0 { fragIn := t1 } busyLane).ports.rst = false := by decide

theorem witness_BlendOperandA : (busy false true).ports.rst = false ∧
    (small 0 { fragIn := t1 } busyLane).ports.rst = false := by decide

theorem witness_BlendOperandB : (busy false true).ports.rst = false ∧
    (small 0 { fragIn := t1 } busyLane).ports.rst = false := by decide

theorem witness_BlendOperandC : (busy false true).ports.rst = false ∧
    (small 0 { fragIn := t1 } busyLane).ports.rst = false := by decide

theorem witness_BlendOperandD : (busy false true).ports.rst = false ∧
    (small 0 { fragIn := t1 } busyLane).ports.rst = false := by decide

theorem witness_ReservedSelectorsActAsTheLastCase : (busy false true).ports.rst = false ∧
    (small (BitVec.allOnes 128) { fragIn := t1 } busyLane).ports.rst = false := by decide

theorem witness_DitherOperations : (busy false true).ports.rst = false ∧
    (small 0 { fragIn := t1 } busyLane).ports.rst = false := by decide

theorem witness_ClampOperations : (busy false true).ports.rst = false ∧
    (small 0 { fragIn := t1 } busyLane).ports.rst = false := by decide

theorem witness_AlphaCorrectionOperations : (busy false true).ports.rst = false ∧
    (small 0 { fragIn := t1 } busyLane).ports.rst = false := by decide

/-- Six steps of a script: T1, then bubbles; the last step loads `w`. -/
def script (w : CfgWord) : State :=
  ⟨[busyLane], 0x040B, [⟨false, true, 0x040B, [{ fragIn := t1 }]⟩, {}, {}, {}, {}, ⟨false, true, w, []⟩], {}⟩

theorem witness_SixStepsComputeThePass :
    (script 1).env = (script 1).env[0] :: {} :: {} :: {} :: {} :: ⟨false, true, 1, []⟩ :: [] ∧
    (∀ p ∈ (script 1).env, p.rst = false) ∧ 0 < (script 1).lanes.length ∧
    (∀ p ∈ (script 1).env.take 5, keepsCfg (script 1).cfg p = true) := by decide

theorem witness_StagesCopyTheOtherFields :
    (script 0).env = (script 0).env[0] :: {} :: {} :: {} :: {} :: ⟨false, true, 0, []⟩ :: [] ∧
    (∀ p ∈ (script 0).env, p.rst = false) ∧ 0 < (script 0).lanes.length := by decide

theorem witness_LanesAreIndependent : (busy false true).ports.rst = false := by decide

/-- The load at the first step R278 allows: five steps of bubbles, that step included. -/
theorem witness_LoadDutyGivesThePass :
    (script 1).env.length = 6 ∧ 0 < (script 1).lanes.length ∧
    loadDuty 0 (script 1).cfg (script 1).env = true ∧
    live ((script 1).env[0].lane 0).fragIn = true := by decide

/-- A flag that survives each stage, so that each implication has its premise met. -/
theorem witness_FlagsNeverRise :
    (alphaTest 0x040B t1).wc = true ∧ (dstAlphaTest 0x4000 { t1 with a := 0 }).wz = true ∧
    (zTest 0x50000 3 t1).wz = true ∧ (alphaBlend 0x80000 {} t1).wc = true ∧
    (dither {} 0 busyLane.s4).wz = true ∧ (clamp 0 busyLane.s5).wc = true ∧
    (pipe {} 0x040B t1 0 {}).wz = true := by decide

/-- The same place and colors with other flags, and the same flags, depth and alpha with other colors. -/
theorem witness_FlagsAndColorsDoNotMix :
    (samePlace t1 { t1 with wc := false, wa := true } ∧ sameColor t1 { t1 with wc := false, wa := true }) ∧
    (samePlace busyLane.s4 { busyLane.s4 with wz := false } ∧
      sameColor busyLane.s4 { busyLane.s4 with wz := false }) ∧
    (sameFlags t1 { t1 with x := 9, r := 9 } ∧ t1.z = { t1 with x := 9, r := 9 }.z ∧
      t1.a = { t1 with x := 9, r := 9 }.a) ∧
    sameFlags busyLane.s4 { busyLane.s4 with r := 300, z := 8 } :=
  ⟨⟨⟨rfl, rfl, rfl, rfl⟩, rfl, rfl, rfl⟩, ⟨⟨rfl, rfl, rfl, rfl⟩, rfl, rfl, rfl⟩,
   ⟨⟨rfl, rfl, rfl⟩, rfl, rfl⟩, rfl, rfl, rfl⟩

/-- A lane of bubbles that are not all-zero records. -/
def bubbleLane : Lane :=
  ⟨{ r := 9 }, { g := 9 }, { a := 0x80 }, { r := 300 }, { x := 7 }, { a := 0x80 }⟩

theorem witness_BubblesStayBubbles :
    bubble ({ a := 9 } : Frag8) = true ∧ bubble bubbleLane.s1 = true ∧ bubble bubbleLane.s2 = true ∧
    bubble bubbleLane.s3 = true ∧ bubble bubbleLane.s4 = true ∧ bubble bubbleLane.s5 = true := by decide

/-- A drained, quiet state whose coming step loads. -/
def idleBlock : State :=
  ⟨[bubbleLane, {}], 0x040B, [⟨false, true, BitVec.allOnes 128, [{ fragIn := { a := 9 } }]⟩, {}], {}⟩

theorem witness_DrainedStatePersists :
    (drained idleBlock = true ∧ quiet idleBlock = true) ∧ ∃ t, step idleBlock = .next t :=
  ⟨by decide, _, rfl⟩

/-- A drained block whose coming step presents only bubbles and loads, and whose later steps are not
quiet; at both ends of the range of the number of steps. -/
theorem witness_DrainedLoadDisturbsNoResult :
    let s : State := { idleBlock with env := idleBlock.env[0] :: (busy true true).env }
    drained s = true ∧ bubblesIn s.ports = true ∧ s.ports.cfgLoad = true ∧ quiet s = false ∧
    0 ≤ 6 ∧ 6 ≤ 6 := by decide

/-- Log entry 22: T1, killed by AT.NEVER in the step it is presented, leaves the block drained, and a load
in the next step, with bubbles presented, breaks the duty as R278 counts it. -/
theorem test_drained_load_and_duty :
    ∃ t, step ⟨[{}], 1, [{ lanes := [{ fragIn := t1 }] }, { cfgLoad := true }], {}⟩ = .next t ∧
      drained t = true ∧ bubblesIn t.ports = true ∧ loadDuty 0 t.cfg t.env = false :=
  ⟨_, rfl, by decide⟩

/-- Live fragments in the registers, bubbles at the port. -/
theorem witness_SixBubblesDrainTheMachine :
    quiet (small 0x040B { fragIn := { a := 9 } } busyLane) = true ∧
    drained (small 0x040B { fragIn := { a := 9 } } busyLane) = false := by decide

theorem witness_BlendIdentities : (0 : U8).toNat ≤ 128 ∧ (128 : U8).toNat ≤ 128 := by decide

/-- Both ends of the range and of each of its three parts. -/
theorem witness_NineBitReductionWraps :
    ∀ sum ∈ [-509, -1, 0, 511, 512, (763 : Int)], -509 ≤ sum ∧ sum ≤ 763 := by decide

/-- Sums on which the two readings agree, and on which they differ. -/
theorem witness_ReadingsDifferOutsideNineBits :
    (∀ sum ∈ [0, 511, (-509), (-1), 512, (763 : Int)], -509 ≤ sum ∧ sum ≤ 763) ∧
    clampSaturate (trunc9 511) = altClamp 511 ∧ clampSaturate (trunc9 512) ≠ altClamp 512 := by decide

/-- Each clause at the ends of its range; no value meets two of them. -/
theorem witness_ClampModesCompared :
    ((0 : U9).toNat ≤ 255 ∧ (255 : U9).toNat ≤ 255) ∧ (511 : U9).toNat = 511 ∧
    (256 ≤ (256 : U9).toNat ∧ (256 : U9).toNat ≤ 510) ∧
    256 ≤ (510 : U9).toNat ∧ (510 : U9).toNat ≤ 510 := by decide

/-- Both ends of the offset, and two positions that differ outside the two bits of each coordinate. -/
theorem witness_DitherSumAndPosition :
    (∀ off ∈ [-4, (3 : Int)], -4 ≤ off ∧ off ≤ 3) ∧
    (0x0020#16).toNat / 2 ^ 4 % 4 = (0xFFEF#16).toNat / 2 ^ 4 % 4 ∧
    (0x0010#16).toNat / 2 ^ 4 % 4 = (0x8D5F#16).toNat / 2 ^ 4 % 4 := by decide

end Sys2Proof.Tests
end

/-! Flags only fall (10_state.md R35), and what follows for bubbles (40_pipeline.md R141). The stage
lemmas speak of any operations in force, not only of those a configuration word selects. -/

namespace Sys2Proof.Safety

open Sys2Proof.Machine

/-! ### The order on flags -/

theorem sameFlags.flagsWithin {m n : Nat} {f : Frag m} {g : Frag n} (h : sameFlags f g) :
    flagsWithin f g := by
  obtain ⟨hc, ha, hz⟩ := h
  exact ⟨hc.symm.trans, ha.symm.trans, hz.symm.trans⟩

theorem flagsWithin.trans {k m n : Nat} {f : Frag k} {g : Frag m} {h : Frag n}
    (hfg : flagsWithin f g) (hgh : flagsWithin g h) : flagsWithin f h := by
  obtain ⟨hc, ha, hz⟩ := hfg
  obtain ⟨hc', ha', hz'⟩ := hgh
  exact ⟨hc' ∘ hc, ha' ∘ ha, hz' ∘ hz⟩

theorem bubble_iff {n : Nat} (f : Frag n) :
    bubble f = true ↔ f.wc = false ∧ f.wa = false ∧ f.wz = false := by
  simp [bubble, and_assoc]

/-- A bubble is a least element of the order: nothing under it is live. -/
theorem flagsWithin.bubble {m n : Nat} {f : Frag m} {g : Frag n} (h : flagsWithin f g)
    (hg : bubble g = true) : bubble f = true := by
  obtain ⟨hc, ha, hz⟩ := h
  rw [bubble_iff] at hg ⊢
  obtain ⟨gc, ga, gz⟩ := hg
  exact ⟨Bool.eq_false_iff.2 fun fc => by simp [hc fc] at gc,
    Bool.eq_false_iff.2 fun fa => by simp [ha fa] at ga,
    Bool.eq_false_iff.2 fun fz => by simp [hz fz] at gz⟩

/-! ### The gates and the stages, under any operations in force -/

theorem gateSelected_flagsWithin {n : Nat} (g : Gates) (t : Bool) (f : Frag n) :
    flagsWithin (f.gateSelected g t) f :=
  ⟨Bool.and_elim_left, Bool.and_elim_left, Bool.and_elim_left⟩

theorem gateAll_flagsWithin {n : Nat} (t : Bool) (f : Frag n) : flagsWithin (f.gateAll t) f :=
  ⟨Bool.and_elim_left, Bool.and_elim_left, Bool.and_elim_left⟩

section stages
variable (m : Params) (c : Controls) (zref : Depth) (fb : FbSample) (f : Frag8) (k : Frag9)

theorem alphaTestStage_flagsWithin : flagsWithin (alphaTestStage c f) f :=
  gateSelected_flagsWithin c.gates (c.alphaResult f.a) f

theorem dstAlphaTestStage_flagsWithin : flagsWithin (dstAlphaTestStage c f) f :=
  gateAll_flagsWithin (c.dstResult f.a) f

theorem zTestStage_flagsWithin : flagsWithin (zTestStage c zref f) f :=
  gateAll_flagsWithin (c.depthResult f.z zref) f

theorem alphaBlendStage_sameFlags : sameFlags (alphaBlendStage c fb f) f := ⟨rfl, rfl, rfl⟩

theorem ditherStage_sameFlags : sameFlags (ditherStage m c k) k := ⟨rfl, rfl, rfl⟩

theorem clampStage_sameFlags : sameFlags (clampStage c k) k := ⟨rfl, rfl, rfl⟩

end stages

/-! ### A pass -/

/-- A pass whose configuration may change from stage to stage (40_pipeline.md R140). -/
theorem passUnder_flagsWithin (prm : Params) (c0 c1 c2 c3 c4 c5 : CfgWord) (f : Frag8) (zr : Depth)
    (fb : FbSample) :
    flagsWithin (clamp c5 (dither prm c4 (alphaBlend c3 fb (zTest c2 zr (dstAlphaTest c1
      (alphaTest c0 f)))))) f :=
  (clampStage_sameFlags _ _).flagsWithin
    |>.trans (ditherStage_sameFlags _ _ _).flagsWithin
    |>.trans (alphaBlendStage_sameFlags _ _ _).flagsWithin
    |>.trans (zTestStage_flagsWithin _ _ _)
    |>.trans (dstAlphaTestStage_flagsWithin _ _)
    |>.trans (alphaTestStage_flagsWithin _ _)

/-- Settles O44: each stage gates the flags or copies them, and the order on flags is transitive. -/
theorem flagsNeverRise : Obligations.FlagsNeverRise := by
  refine ⟨fun prm cfg zref fb f k => ?stages, fun prm cfg f zr fb => ?pass, passUnder_flagsWithin⟩
  case stages =>
    exact ⟨alphaTestStage_flagsWithin _ f, dstAlphaTestStage_flagsWithin _ f,
      zTestStage_flagsWithin _ zref f, (alphaBlendStage_sameFlags _ fb f).flagsWithin,
      (ditherStage_sameFlags prm _ k).flagsWithin, (clampStage_sameFlags _ k).flagsWithin⟩
  case pass => exact passUnder_flagsWithin prm cfg cfg cfg cfg cfg cfg f zr fb

/-- Settles O47: the flags of each register are within those of what the step computed it from. -/
theorem bubblesStayBubbles : Obligations.BubblesStayBubbles := fun prm _ p l =>
  ⟨(alphaTestStage_flagsWithin _ p.fragIn).bubble,
    (dstAlphaTestStage_flagsWithin _ l.s1).bubble,
    (zTestStage_flagsWithin _ p.zrefIn l.s2).bubble,
    (alphaBlendStage_sameFlags _ p.fbIn l.s3).flagsWithin.bubble,
    (ditherStage_sameFlags prm _ l.s4).flagsWithin.bubble,
    (clampStage_sameFlags _ l.s5).flagsWithin.bubble⟩

end Sys2Proof.Safety

/-! The bits of `CFG` no stage reads (30_encoding.md R110, 10_state.md R46): words that agree outside
them put the same operations in force. -/

namespace Sys2Proof.Machine

open Sys2Proof.Safety

/-! ### Words that agree outside a mask -/

section agree
variable {width : Nat} {mask v w : BitVec width}

theorem getLsbD_eq_of_agree (h : v &&& ~~~mask = w &&& ~~~mask) (i : Nat)
    (hi : mask.getLsbD i = false) : v.getLsbD i = w.getLsbD i := by
  by_cases hw : i < width
  · have hbit := congrArg (BitVec.getLsbD · i) h
    simpa only [BitVec.getLsbD_and, BitVec.getLsbD_not, hi, hw, decide_true, Bool.not_false,
      Bool.and_true] using hbit
  · rw [BitVec.getLsbD_of_ge _ _ (by omega), BitVec.getLsbD_of_ge _ _ (by omega)]

theorem extractLsb'_eq_of_agree (h : v &&& ~~~mask = w &&& ~~~mask) (lo n : Nat)
    (hm : mask.extractLsb' lo n = 0#n) : v.extractLsb' lo n = w.extractLsb' lo n := by
  ext j hj
  have hbit : mask.getLsbD (lo + j) = false := by
    simpa [hj] using congrArg (BitVec.getLsbD · j) hm
  simpa using getLsbD_eq_of_agree h (lo + j) hbit

end agree

/-! ### The dither cells -/

/-- A cell of DIMX, by its bits in the configuration word (10_state.md R45). -/
theorem ditherCell_unpackCfg (w : CfgWord) (row col : BitVec 2) :
    ditherCell (unpackCfg w).dimx row col =
      w.extractLsb' (64 + 4 * (4 * row.toNat + col.toNat)) 3 := by
  have hrow := row.isLt
  have hcol := col.isLt
  ext j hj
  have hin : 4 * (4 * row.toNat + col.toNat) + j < 64 := by omega
  simp [ditherCell, unpackCfg, hin, Nat.add_assoc]

/-- The three bits of each dither cell are read. -/
theorem unreadBits_ditherCell : ∀ row col : BitVec 2,
    unreadBits.extractLsb' (64 + 4 * (4 * row.toNat + col.toNat)) 3 = 0#3 := by decide

/-- Dither reads the matrix by its cells. -/
theorem ditherAdd_congr {d e : BitVec 64} (h : ∀ row col, ditherCell d row col = ditherCell e row col) :
    ditherAdd d = ditherAdd e := by
  funext lsb x y c
  simp only [ditherAdd, ditherOffset, h]

/-! ### The operations in force -/

/-- ZPSM and the reserved field are read by no operation, DIMX by its cells alone. -/
theorem Controls.ofFields_unread (f : CfgFields) (zpsm : BitVec 4) (reserved : BitVec 14)
    (dimx : BitVec 64) (h : ∀ row col, ditherCell dimx row col = ditherCell f.dimx row col) :
    Controls.ofFields { f with zpsm := zpsm, reserved := reserved, dimx := dimx } =
      Controls.ofFields f := by
  have hdither : ditherOf { f with zpsm := zpsm, reserved := reserved, dimx := dimx } = ditherOf f := by
    simp only [ditherOf, ditherAdd_congr h]
  exact congrArg (fun d => { Controls.ofFields f with dither := d }) hdither

section unread
variable {v w : CfgWord}

/-- Words that agree on the bits that are read have the same fields, but for those that hold the
others. -/
theorem unpackCfg_eq_of_agree (h : v &&& ~~~unreadBits = w &&& ~~~unreadBits) :
    unpackCfg v = { unpackCfg w with
      zpsm := (unpackCfg v).zpsm, reserved := (unpackCfg v).reserved, dimx := (unpackCfg v).dimx } := by
  have bit := getLsbD_eq_of_agree h
  have field := extractLsb'_eq_of_agree h
  simp only [unpackCfg, CfgFields.mk.injEq, and_true]
  exact ⟨bit 0 rfl, field 1 3 rfl, field 4 8 rfl, field 12 2 rfl, bit 14 rfl, bit 15 rfl, bit 16 rfl,
    field 17 2 rfl, bit 19 rfl, bit 20 rfl, field 21 2 rfl, field 23 2 rfl, field 25 2 rfl,
    field 27 2 rfl, field 29 8 rfl, bit 37 rfl, bit 38 rfl, bit 39 rfl, field 40 6 rfl⟩

theorem ditherCell_eq_of_agree (h : v &&& ~~~unreadBits = w &&& ~~~unreadBits) (row col : BitVec 2) :
    ditherCell (unpackCfg v).dimx row col = ditherCell (unpackCfg w).dimx row col := by
  rw [ditherCell_unpackCfg, ditherCell_unpackCfg]
  exact extractLsb'_eq_of_agree h _ 3 (unreadBits_ditherCell row col)

theorem Controls.ofCfg_eq_of_agree (h : v &&& ~~~unreadBits = w &&& ~~~unreadBits) :
    Controls.ofCfg v = Controls.ofCfg w := by
  rw [Controls.ofCfg, unpackCfg_eq_of_agree h,
    Controls.ofFields_unread _ _ _ _ (ditherCell_eq_of_agree h), Controls.ofCfg]

end unread

/-- Settles O17: a lane's step reads the configuration word only through the operations in force. -/
theorem reservedBitsAndZpsmAreIgnored : Obligations.ReservedBitsAndZpsmAreIgnored :=
  fun _ _ h prm p lane => congrArg (laneStep prm · p lane) (Controls.ofCfg_eq_of_agree h)

end Sys2Proof.Machine

/-! The operation table as one decoder (30_encoding.md R107, R116): each word selects exactly one row of
each group, and a row's selection reads only the bits of its mask. -/

namespace Sys2Proof

/-! ### Fields of a word -/

/-- The bits of a field, cut out of a word where they stand, are the field placed back. -/
theorem and_placed_allOnes (w : CfgWord) (lo n : Nat) :
    w &&& placed n lo (BitVec.allOnes n) = placed n lo (w.extractLsb' lo n) := by
  ext i hi
  simp only [placed, BitVec.getElem_and, BitVec.getElem_shiftLeft, BitVec.getElem_setWidth,
    BitVec.getLsbD_allOnes, BitVec.getLsbD_extractLsb']
  by_cases hlo : i < lo
  · simp [hlo]
  · simp [hlo, show lo + (i - lo) = i by omega, BitVec.getLsbD_eq_getElem hi, Bool.and_comm]

/-- A row is selected by the bits of its mask alone (30_encoding.md R116). -/
theorem Row.selects_congr {r : Row} {v w : CfgWord} (h : v &&& r.mask = w &&& r.mask) :
    r.selects v = r.selects w := by
  simp only [Row.selects, h]

/-! ### Exactly one row (30_encoding.md R107) -/

/-- Where the bits that select a group's row begin (10_state.md R43). -/
def Group.selectLow : Group → Nat
  | .alphaTest => 0
  | .alphaFail => 12
  | .dstTest => 14
  | .depthTest => 16
  | .blend => 19
  | .operandA => 21
  | .operandB => 23
  | .operandC => 25
  | .operandD => 27
  | .dither => 37
  | .clamp => 38
  | .alphaFix => 39

/-- How many bits select a group's row (10_state.md R43). -/
def Group.selectWidth : Group → Nat
  | .alphaTest => 4
  | .depthTest => 3
  | .dither | .clamp | .alphaFix => 1
  | _ => 2

/-- The word whose only bits are the selecting bits of a group. -/
def Group.selectWord (g : Group) (v : BitVec g.selectWidth) : CfgWord := placed g.selectWidth g.selectLow v

/-- The selecting bits of a group cover the masks of its rows. -/
theorem mask_within_selectWord (g : Group) :
    ∀ r ∈ rows g, g.selectWord (BitVec.allOnes _) &&& r.mask = r.mask := by
  cases g <;> decide

/-- The table is total and without overlap on the selecting bits of each group. -/
theorem rows_filter_selectWord (g : Group) :
    ∀ v, ((rows g).filter (·.selects (g.selectWord v))).length = 1 := by
  cases g <;> decide

/-- A word selects the rows that its selecting bits alone select. -/
theorem selects_selectWord {g : Group} {r : Row} (hr : r ∈ rows g) (w : CfgWord) :
    r.selects (g.selectWord (w.extractLsb' g.selectLow g.selectWidth)) = r.selects w := by
  apply Row.selects_congr
  rw [Group.selectWord, ← and_placed_allOnes, BitVec.and_assoc]
  exact congrArg (w &&& ·) (mask_within_selectWord g r hr)

theorem rows_filter_length (g : Group) (w : CfgWord) :
    ((rows g).filter (·.selects w)).length = 1 := by
  rw [← List.filter_congr fun r hr => selects_selectWord hr w]
  exact rows_filter_selectWord g _

/-- The row a group selects is the one that matches. -/
theorem selectedRow_eq_iff {g : Group} {w : CfgWord} {r : Row} :
    selectedRow g w = some r ↔ r ∈ rows g ∧ r.selects w = true := by
  obtain ⟨q, hq⟩ := List.length_eq_one_iff.1 (rows_filter_length g w)
  have honly : r ∈ [q] ↔ r ∈ rows g ∧ r.selects w = true := hq ▸ List.mem_filter
  rw [← honly, List.mem_singleton, selectedRow, ← List.head?_filter, hq, List.head?_cons,
    Option.some_inj, eq_comm]

theorem exists_selectedRow (g : Group) (w : CfgWord) : ∃ r, selectedRow g w = some r := by
  obtain ⟨q, hq⟩ := List.length_eq_one_iff.1 (rows_filter_length g w)
  exact ⟨q, by rw [selectedRow, ← List.head?_filter, hq, List.head?_cons]⟩

theorem decodeGroup_eq_iff {g : Group} {w : CfgWord} {i : Instr} :
    decodeGroup g w = some i ↔ ∃ r ∈ rows g, r.selects w = true ∧ r.build w = i := by
  simp only [decodeGroup, Option.map_eq_some_iff, selectedRow_eq_iff, and_assoc]

theorem exists_decodeGroup (g : Group) (w : CfgWord) : ∃ i, decodeGroup g w = some i := by
  obtain ⟨r, hr⟩ := exists_selectedRow g w
  exact ⟨r.build w, by rw [decodeGroup, hr, Option.map_some]⟩

/-! ### The operations a row builds -/

/-- The rows of a group build operations of that group. -/
theorem build_group (g : Group) (w : CfgWord) : ∀ r ∈ rows g, (r.build w).group = g := by
  cases g <;> simp [rows, Instr.group]

/-- Both groups whose operations carry a format take it from the one field FBPSM (10_state.md R43). -/
theorem build_format (g : Group) (w : CfgWord) :
    ∀ r ∈ rows g, ∀ f, (r.build w).format? = some f → f = operandFbpsm w := by
  cases g <;> simp [rows, Instr.format?]

theorem decodeGroup_group {g : Group} {w : CfgWord} {i : Instr} (h : decodeGroup g w = some i) :
    i.group = g := by
  obtain ⟨r, hr, -, rfl⟩ := decodeGroup_eq_iff.1 h
  exact build_group g w r hr

theorem Group.mem_all (g : Group) : g ∈ Group.all := by
  cases g <;> decide

/-- The operations a word selects are those its groups select. -/
theorem mem_decodeOps_iff {i : Instr} {w : CfgWord} :
    i ∈ decodeOps w ↔ decodeGroup i.group w = some i := by
  constructor
  · intro h
    obtain ⟨g, -, hg⟩ := Machine.mem_decodeOps h
    rwa [decodeGroup_group hg]
  · exact fun h => List.mem_filterMap.2 ⟨i.group, i.group.mem_all, h⟩

/-! ### The decoded list is a complete selection (30_encoding.md R91) -/

theorem allGroups_decodeOps (w : CfgWord) : allGroups (decodeOps w) = true := by
  have hgroup (g : Group) : (decodeGroup g w).map Instr.group = some g := by
    obtain ⟨i, hi⟩ := exists_decodeGroup g w
    rw [hi, Option.map_some, decodeGroup_group hi]
  simp only [allGroups, decodeOps, List.map_filterMap, hgroup, List.filterMap_some, BEq.rfl]

theorem formatsAgree_decodeOps (w : CfgWord) : formatsAgree (decodeOps w) = true := by
  have hformat : ∀ f ∈ (decodeOps w).filterMap Instr.format?, f = operandFbpsm w := by
    intro f hf
    obtain ⟨i, hi, hif⟩ := List.mem_filterMap.1 hf
    obtain ⟨r, hr, -, rfl⟩ := decodeGroup_eq_iff.1 (mem_decodeOps_iff.1 hi)
    exact build_format _ w r hr f hif
  unfold formatsAgree
  split
  · rfl
  · next f fs hfs =>
    rw [hfs, List.forall_mem_cons] at hformat
    obtain ⟨hf, hrest⟩ := hformat
    exact List.all_eq_true.2 fun x hx => beq_iff_eq.2 ((hrest x hx).trans hf.symm)

/-- Settles O9: the selecting bits of each group are covered by its rows without overlap, and the
operation of each group is in the decoded list. -/
theorem eachGroupSelectsExactlyOneRow : Obligations.EachGroupSelectsExactlyOneRow := fun w =>
  ⟨fun g => rows_filter_length g w,
    Bool.and_eq_true_iff.2 ⟨allGroups_decodeOps w, formatsAgree_decodeOps w⟩⟩

end Sys2Proof

/-! The operations of a word and the operations in force: an operation's meaning puts one entry in force
(30_encoding.md R91), and the fields of a word put in force what its selected rows name. -/

namespace Sys2Proof

open Machine

/-! ### What an operation puts in force -/

/-- The operations in force with those an operation names in its group's place. -/
def Instr.change (i : Instr) (c : Controls) : Controls :=
  match i with
  | .atOff => { c with alphaResult := alphaOff }
  | .atNever => { c with alphaResult := alphaNever }
  | .atAlways => { c with alphaResult := alphaAlways }
  | .atLess aref => { c with alphaResult := alphaLess aref }
  | .atLequal aref => { c with alphaResult := alphaLequal aref }
  | .atEqual aref => { c with alphaResult := alphaEqual aref }
  | .atGequal aref => { c with alphaResult := alphaGequal aref }
  | .atGreater aref => { c with alphaResult := alphaGreater aref }
  | .atNotequal aref => { c with alphaResult := alphaNotequal aref }
  | .afailKeep => { c with gates := gatesKeep }
  | .afailFbOnly => { c with gates := gatesFbOnly }
  | .afailZbOnly => { c with gates := gatesZbOnly }
  | .afailRgbOnly fbpsm => { c with gates := gatesRgbOnly fbpsm }
  | .datOff => { c with dstResult := dstOff }
  | .datExpect0 fbpsm => { c with dstResult := dstExpect0 fbpsm }
  | .datExpect1 fbpsm => { c with dstResult := dstExpect1 fbpsm }
  | .ztOff => { c with depthResult := depthOff }
  | .ztNever => { c with depthResult := depthNever }
  | .ztAlways => { c with depthResult := depthAlways }
  | .ztGequal => { c with depthResult := depthGequal }
  | .ztGreater => { c with depthResult := depthGreater }
  | .blendOff => { c with applies := blendNever }
  | .blendAll => { c with applies := blendAlways }
  | .blendPabe => { c with applies := blendPerPixel }
  | .aSrc => { c with operandA := .source }
  | .aFb => { c with operandA := .framebuffer }
  | .aZero | .aRsvd => { c with operandA := .zero }
  | .bSrc => { c with operandB := .source }
  | .bFb => { c with operandB := .framebuffer }
  | .bZero | .bRsvd => { c with operandB := .zero }
  | .cAs => { c with operandC := .sourceAlpha }
  | .cAd => { c with operandC := .framebufferAlpha }
  | .cFix fix | .cRsvd fix => { c with operandC := .fixed, fix := fix }
  | .dSrc => { c with operandD := .source }
  | .dFb => { c with operandD := .framebuffer }
  | .dZero | .dRsvd => { c with operandD := .zero }
  | .dthOff => { c with dither := ditherCopy }
  | .dthOn dimx => { c with dither := ditherAdd dimx }
  | .clampMask => { c with clamp := Machine.clampMask }
  | .clampClamp => { c with clamp := clampSaturate }
  | .fba0 => { c with alphaBit := false }
  | .fba1 => { c with alphaBit := true }

/-- The meaning of every operation is the clock edge under its change. -/
theorem exec_eq_edgeUnder (i : Instr) (s : State) : exec i s = edgeUnder i.change s := by
  cases i <;> rfl

/-! ### What a selected row says of the word -/

section selects
variable {r : Row} {w : CfgWord}

theorem bit_of_selects (h : r.selects w = true) (n : Nat) (hm : r.mask.getLsbD n = true) :
    w.getLsbD n = r.pattern.getLsbD n := by
  rw [← beq_iff_eq.1 h, BitVec.getLsbD_and, hm, Bool.and_true]

theorem field_of_selects (h : r.selects w = true) (lo n : Nat)
    (hm : r.mask.extractLsb' lo n = BitVec.allOnes n) :
    w.extractLsb' lo n = r.pattern.extractLsb' lo n := by
  rw [← beq_iff_eq.1 h, BitVec.extractLsb'_and, hm, BitVec.and_allOnes]

end selects

section operands
variable (w : CfgWord)

@[simp] theorem unpackCfg_aref : (unpackCfg w).aref = operandAref w := rfl
@[simp] theorem unpackCfg_fix : (unpackCfg w).fix = operandFix w := rfl
@[simp] theorem unpackCfg_fbpsm : (unpackCfg w).fbpsm = operandFbpsm w := rfl
@[simp] theorem unpackCfg_dimx : (unpackCfg w).dimx = operandDimx w := rfl

end operands

/-- The row's operation is what the fields of each word it selects put in force. -/
def Row.AgreesWithFields (r : Row) : Prop :=
  ∀ w, r.selects w = true → (r.build w).change (.ofCfg w) = .ofCfg w

/-- The decoder by mask and match agrees with the stages' reading of the fields. A row that turns a unit
off fixes its enable bit alone, the group's other rows its mode as well. -/
theorem rows_agreeWithFields (g : Group) : ∀ r ∈ rows g, r.AgreesWithFields := by
  intro r hr w h
  have bit := bit_of_selects h
  have field := field_of_selects h
  rw [Controls.ofCfg, Controls.ofFields]
  cases g with
  | alphaTest =>
    obtain rfl | hr := List.mem_cons.1 hr
    · simp [Instr.change, alphaResultOf, show (unpackCfg w).ate = _ from bit 0 rfl]
    · fin_cases hr <;> simp [Instr.change, alphaResultOf, show (unpackCfg w).ate = _ from bit 0 rfl,
        show (unpackCfg w).atst = _ from field 1 3 rfl]
  | alphaFail =>
    fin_cases hr <;> simp [Instr.change, gatesOf, show (unpackCfg w).afail = _ from field 12 2 rfl]
  | dstTest =>
    obtain rfl | hr := List.mem_cons.1 hr
    · simp [Instr.change, dstResultOf, show (unpackCfg w).date = _ from bit 14 rfl]
    · fin_cases hr <;> simp [Instr.change, dstResultOf, show (unpackCfg w).date = _ from bit 14 rfl,
        show (unpackCfg w).datm = _ from bit 15 rfl]
  | depthTest =>
    obtain rfl | hr := List.mem_cons.1 hr
    · simp [Instr.change, depthResultOf, show (unpackCfg w).zte = _ from bit 16 rfl]
    · fin_cases hr <;> simp [Instr.change, depthResultOf, show (unpackCfg w).zte = _ from bit 16 rfl,
        show (unpackCfg w).ztst = _ from field 17 2 rfl]
  | blend =>
    obtain rfl | hr := List.mem_cons.1 hr
    · simp [Instr.change, appliesOf, show (unpackCfg w).abe = _ from bit 19 rfl]
    · fin_cases hr <;> simp [Instr.change, appliesOf, show (unpackCfg w).abe = _ from bit 19 rfl,
        show (unpackCfg w).pabe = _ from bit 20 rfl]
  | operandA => fin_cases hr <;> simp [Instr.change, show (unpackCfg w).a = _ from field 21 2 rfl]
  | operandB => fin_cases hr <;> simp [Instr.change, show (unpackCfg w).b = _ from field 23 2 rfl]
  | operandC => fin_cases hr <;> simp [Instr.change, show (unpackCfg w).c = _ from field 25 2 rfl]
  | operandD => fin_cases hr <;> simp [Instr.change, show (unpackCfg w).d = _ from field 27 2 rfl]
  | dither => fin_cases hr <;> simp [Instr.change, ditherOf, show (unpackCfg w).dthe = _ from bit 37 rfl]
  | clamp => fin_cases hr <;> simp [Instr.change, clampOf, show (unpackCfg w).clamp = _ from bit 38 rfl]
  | alphaFix => fin_cases hr <;> simp [Instr.change, show (unpackCfg w).fba = _ from bit 39 rfl]

/-- An operation the word selects changes nothing: it is in force already. -/
theorem change_ofCfg {g : Group} {w : CfgWord} {i : Instr} (h : decodeGroup g w = some i) :
    i.change (.ofCfg w) = .ofCfg w := by
  obtain ⟨r, hr, hw, rfl⟩ := decodeGroup_eq_iff.1 h
  exact rows_agreeWithFields g r hr w hw

/-! ### A step under the operations of `CFG` -/

/-- The meaning of a selected operation is the edge of the bare core under `CFG` (R244). -/
theorem exec_of_selected {i : Instr} {s : State} (h : i ∈ decodeOps s.cfg) :
    exec i s = .next (s.clockEdge (bareCore s.params s.cfg)) := by
  rw [exec_eq_edgeUnder, edgeUnder_eq, change_ofCfg (mem_decodeOps_iff.1 h)]
  rfl

/-- Every word is read as some operation (30_encoding.md R107): if as no other, as one of its all-zero
operations, since every mask lies within the word. -/
theorem exists_namedOperation (w : CfgWord) : ∃ i, namedOperation Config.cfgWidth w = some i := by
  unfold namedOperation
  simp only
  split
  · exact ⟨_, rfl⟩
  · obtain ⟨r, hr⟩ := exists_selectedRow .alphaTest w
    have hmem : r ∈ (Group.all.filterMap (selectedRow · w)).reverse :=
      List.mem_reverse.2 (List.mem_filterMap.2 ⟨_, Group.mem_all _, hr⟩)
    rw [← Option.isSome_iff_exists, Option.isSome_map, List.find?_isSome]
    exact ⟨r, hmem, decide_eq_true r.mask.isLt⟩

/-- What a step is: the edge of the bare core under `CFG` (40_pipeline.md R133). -/
theorem step_eq_clockEdge (s : State) : step s = .next (s.clockEdge (bareCore s.params s.cfg)) := by
  obtain ⟨i, hi⟩ := exists_namedOperation s.cfg
  rw [step, hi]
  exact exec_of_selected (namedOperation_mem hi)

/-- Settles O1: the step and each selected operation are the same clock edge. -/
theorem stepRunsEverySelectedOperation : Obligations.StepRunsEverySelectedOperation :=
  fun s _ h => (step_eq_clockEdge s).trans (exec_of_selected h).symm

end Sys2Proof

/-! The word rebuilt from the operations a word selects (30_encoding.md R118): it lies within that word,
selects the same operations, and so puts the same operations in force. -/

namespace Sys2Proof

open Machine

/-! ### Parts of a word: `v &&& w = v` says that `v` lies within `w` -/

section parts
variable (a b : CfgWord)

theorem and_or_self_left : a &&& (a ||| b) = a := by
  ext i
  simpa using Or.inl

theorem and_or_self_right : b &&& (a ||| b) = b := by
  rw [BitVec.or_comm, and_or_self_left]

end parts

/-! ### The bits of a row -/

/-- The bits `k` are all that the row reads of a word, and the word of the operation it builds holds
just these bits of the word it is built from. -/
def Row.HasBits (r : Row) (k : CfgWord) : Prop :=
  (∀ v w, v &&& k = w &&& k → r.selects v = r.selects w ∧ r.build v = r.build w) ∧
  ∀ w, r.selects w = true → encode (r.build w) = w &&& k

theorem hasBits_of_const {mnemonic : String} {mask pattern : CfgWord} {i : Instr}
    (hi : encode i = pattern) : Row.HasBits ⟨mnemonic, mask, pattern, fun _ => i⟩ mask :=
  ⟨fun _ _ h => ⟨Row.selects_congr h, rfl⟩, fun _ hw => hi.trans (beq_iff_eq.1 hw).symm⟩

/-- A field that fits reads back from where it is placed. -/
theorem placed_injective {n lo : Nat} (hn : lo + n ≤ 128) : Function.Injective (placed n lo) :=
  Function.LeftInverse.injective (g := (·.extractLsb' lo n)) fun v => by
    simpa using Laws.EncodesItsRow.extract_placed 0 v hn (by simp)

theorem hasBits_of_operand {mnemonic : String} {mask pattern : CfgWord} (lo n : Nat)
    (op : BitVec n → Instr) (hn : lo + n ≤ 128) (hop : ∀ v, encode (op v) = pattern ||| placed n lo v) :
    Row.HasBits ⟨mnemonic, mask, pattern, fun w => op (w.extractLsb' lo n)⟩
      (mask ||| placed n lo (BitVec.allOnes n)) := by
  constructor
  · intro v w h
    have hpart {a : CfgWord} (ha : a &&& (mask ||| placed n lo (BitVec.allOnes n)) = a) :
        v &&& a = w &&& a := by
      rw [← ha, BitVec.and_comm a, ← BitVec.and_assoc, h, BitVec.and_assoc]
    have hplaced := hpart (and_or_self_right _ _)
    rw [and_placed_allOnes, and_placed_allOnes] at hplaced
    exact ⟨Row.selects_congr (hpart (and_or_self_left _ _)), congrArg op (placed_injective hn hplaced)⟩
  · intro w hw
    have hmask : w &&& mask = pattern := beq_iff_eq.1 hw
    rw [hop, BitVec.and_or_distrib_left, hmask, and_placed_allOnes]

theorem rows_hasBits (g : Group) : ∀ r ∈ rows g, ∃ k, r.HasBits k := by
  cases g
  case alphaTest =>
    simp only [rows, List.forall_mem_cons]
    exact ⟨⟨_, hasBits_of_const rfl⟩, ⟨_, hasBits_of_const rfl⟩, ⟨_, hasBits_of_const rfl⟩,
      ⟨_, hasBits_of_operand 4 8 .atLess (by decide) fun _ => rfl⟩,
      ⟨_, hasBits_of_operand 4 8 .atLequal (by decide) fun _ => rfl⟩,
      ⟨_, hasBits_of_operand 4 8 .atEqual (by decide) fun _ => rfl⟩,
      ⟨_, hasBits_of_operand 4 8 .atGequal (by decide) fun _ => rfl⟩,
      ⟨_, hasBits_of_operand 4 8 .atGreater (by decide) fun _ => rfl⟩,
      ⟨_, hasBits_of_operand 4 8 .atNotequal (by decide) fun _ => rfl⟩, nofun⟩
  case alphaFail =>
    simp only [rows, List.forall_mem_cons]
    exact ⟨⟨_, hasBits_of_const rfl⟩, ⟨_, hasBits_of_const rfl⟩, ⟨_, hasBits_of_const rfl⟩,
      ⟨_, hasBits_of_operand 40 6 .afailRgbOnly (by decide) fun _ => rfl⟩, nofun⟩
  case dstTest =>
    simp only [rows, List.forall_mem_cons]
    exact ⟨⟨_, hasBits_of_const rfl⟩,
      ⟨_, hasBits_of_operand 40 6 .datExpect0 (by decide) fun _ => rfl⟩,
      ⟨_, hasBits_of_operand 40 6 .datExpect1 (by decide) fun _ => rfl⟩, nofun⟩
  case operandC =>
    simp only [rows, List.forall_mem_cons]
    exact ⟨⟨_, hasBits_of_const rfl⟩, ⟨_, hasBits_of_const rfl⟩,
      ⟨_, hasBits_of_operand 29 8 .cFix (by decide) fun _ => rfl⟩,
      ⟨_, hasBits_of_operand 29 8 .cRsvd (by decide) fun _ => rfl⟩, nofun⟩
  case dither =>
    simp only [rows, List.forall_mem_cons]
    exact ⟨⟨_, hasBits_of_const rfl⟩,
      ⟨_, hasBits_of_operand 64 64 .dthOn (by decide) fun _ => rfl⟩, nofun⟩
  all_goals
    intro r hr
    fin_cases hr <;> exact ⟨_, hasBits_of_const rfl⟩

/-- A word between an operation's own and one that selects the operation selects it as well. -/
theorem decodeGroup_of_between {g : Group} {i : Instr} {v w : CfgWord} (hi : decodeGroup g w = some i)
    (hiv : encode i &&& v = encode i) (hvw : v &&& w = v) : decodeGroup g v = some i := by
  obtain ⟨r, hr, hw, rfl⟩ := decodeGroup_eq_iff.1 hi
  obtain ⟨k, hreads, hholds⟩ := rows_hasBits g r hr
  have hk : v &&& k = w &&& k := by
    calc v &&& k = (w &&& k) &&& v := by rw [← hvw, BitVec.and_assoc, BitVec.and_comm, hvw]
      _ = w &&& k := by rw [← hholds w hw, hiv]
  obtain ⟨hselects, hbuild⟩ := hreads v w hk
  exact decodeGroup_eq_iff.2 ⟨r, hr, hselects.trans hw, hbuild⟩

/-! ### The word of a list of operations -/

theorem encode_within_encodeOps {ops : List Instr} {i : Instr} (h : i ∈ ops) :
    encode i &&& encodeOps ops = encode i := by
  induction ops with
  | nil => nomatch h
  | cons j js ih =>
    change encode i &&& (encode j ||| encodeOps js) = encode i
    obtain rfl | hjs := List.mem_cons.1 h
    · exact and_or_self_left _ _
    · rw [← ih hjs, BitVec.and_assoc, and_or_self_right]

theorem encodeOps_within {ops : List Instr} {w : CfgWord} (h : ∀ i ∈ ops, encode i &&& w = encode i) :
    encodeOps ops &&& w = encodeOps ops := by
  induction ops with
  | nil => exact BitVec.zero_and
  | cons j js ih =>
    obtain ⟨hj, hjs⟩ := List.forall_mem_cons.1 h
    change (encode j ||| encodeOps js) &&& w = encode j ||| encodeOps js
    rw [BitVec.and_or_distrib_right, hj, ih hjs]

/-- The word of a selected operation is a part of the word that selects it. -/
theorem encode_within_of_selected {i : Instr} {w : CfgWord} (h : i ∈ decodeOps w) :
    encode i &&& w = encode i := by
  obtain ⟨r, hr, hw, rfl⟩ := decodeGroup_eq_iff.1 (mem_decodeOps_iff.1 h)
  obtain ⟨k, -, hholds⟩ := rows_hasBits _ r hr
  rw [hholds w hw, BitVec.and_comm, ← BitVec.and_assoc, BitVec.and_self]

/-- The rebuilt word selects the operations it is rebuilt from (30_encoding.md R118). -/
theorem decodeGroup_encodeOps_decodeOps (g : Group) (w : CfgWord) :
    decodeGroup g (encodeOps (decodeOps w)) = decodeGroup g w := by
  obtain ⟨i, hi⟩ := exists_decodeGroup g w
  have hmem : i ∈ decodeOps w := mem_decodeOps_iff.2 (decodeGroup_group hi ▸ hi)
  rw [hi]
  exact decodeGroup_of_between hi (encode_within_encodeOps hmem)
    (encodeOps_within fun _ => encode_within_of_selected)

/-! ### Operations in force, group by group -/

/-- Two sets of operations in force that do the same in a group's place. The constant FIX is part of the
operand C, and no part where C is an alpha (44_alpha_blend.md R202 to R205). -/
def Machine.Controls.AgreeOn (c d : Controls) : Group → Prop
  | .alphaTest => c.alphaResult = d.alphaResult
  | .alphaFail => c.gates = d.gates
  | .dstTest => c.dstResult = d.dstResult
  | .depthTest => c.depthResult = d.depthResult
  | .blend => c.applies = d.applies
  | .operandA => c.operandA = d.operandA
  | .operandB => c.operandB = d.operandB
  | .operandC => alphaOperand c.operandC c.fix = alphaOperand d.operandC d.fix
  | .operandD => c.operandD = d.operandD
  | .dither => c.dither = d.dither
  | .clamp => c.clamp = d.clamp
  | .alphaFix => c.alphaBit = d.alphaBit

/-- An operation alone decides its group's place. -/
theorem change_agreeOn (i : Instr) (c d : Controls) : (i.change c).AgreeOn (i.change d) i.group := by
  cases i <;> rfl

/-- A lane's step reads the operations in force through the twelve groups and nothing else. -/
theorem laneStep_congr {c d : Controls} (h : ∀ g, c.AgreeOn d g) (prm : Params) (p : LanePorts)
    (l : Lane) : laneStep prm c p l = laneStep prm d p l := by
  have hchannel (srcA fbA src fb : U8) : blendChannel c srcA fbA src fb = blendChannel d srcA fbA src fb := by
    rw [blendChannel, blendChannel, show c.applies = d.applies from h .blend,
      show c.operandA = d.operandA from h .operandA, show c.operandB = d.operandB from h .operandB,
      show alphaOperand c.operandC c.fix = _ from h .operandC,
      show c.operandD = d.operandD from h .operandD]
  have hblend : alphaBlendStage c p.fbIn l.s3 = alphaBlendStage d p.fbIn l.s3 := by
    simp only [alphaBlendStage, hchannel]
  rw [laneStep, laneStep, hblend, alphaTestStage, alphaTestStage, dstAlphaTestStage, dstAlphaTestStage,
    zTestStage, zTestStage, ditherStage, ditherStage, clampStage, clampStage,
    show c.alphaResult = _ from h .alphaTest, show c.gates = _ from h .alphaFail,
    show c.dstResult = _ from h .dstTest, show c.depthResult = _ from h .depthTest,
    show c.dither = _ from h .dither, show c.clamp = _ from h .clamp,
    show c.alphaBit = _ from h .alphaFix]

/-- Words from which a group selects one operation put the same in force in its place. -/
theorem ofCfg_agreeOn {g : Group} {v w : CfgWord} (h : decodeGroup g v = decodeGroup g w) :
    (Controls.ofCfg v).AgreeOn (.ofCfg w) g := by
  obtain ⟨i, hi⟩ := exists_decodeGroup g w
  rw [← change_ofCfg hi, ← change_ofCfg (h.trans hi), ← decodeGroup_group hi]
  exact change_agreeOn i _ _

/-- Settles O15: the rebuilt word selects the same operations, these decide the operations in force in
the place of each group, and a lane's step reads nothing else. -/
theorem selectedOperationsDecideTheStep : Obligations.SelectedOperationsDecideTheStep :=
  fun prm w => laneStep_congr (fun g => ofCfg_agreeOn (decodeGroup_encodeOps_decodeOps g w)) prm

end Sys2Proof

/-! What the stages read and copy (40_pipeline.md R132, R142). The stage lemmas speak of any operations in
force, not only of those a configuration word selects. -/

namespace Sys2Proof.Safety

open Sys2Proof.Machine

/-! ### Fragments that differ in their flags alone -/

/-- The two fragments carry the same position, depth, alpha and color. -/
def sameValues {n : Nat} (f g : Frag n) : Prop := samePlace f g ∧ sameColor f g

theorem sameValues.symm {n : Nat} {f g : Frag n} (h : sameValues f g) : sameValues g f := by
  obtain ⟨⟨hx, hy, hz, ha⟩, hr, hg, hb⟩ := h
  exact ⟨⟨hx.symm, hy.symm, hz.symm, ha.symm⟩, hr.symm, hg.symm, hb.symm⟩

theorem sameValues.trans {n : Nat} {f g k : Frag n} (h : sameValues f g) (h' : sameValues g k) :
    sameValues f k := by
  obtain ⟨⟨hx, hy, hz, ha⟩, hr, hg, hb⟩ := h
  obtain ⟨⟨hx', hy', hz', ha'⟩, hr', hg', hb'⟩ := h'
  exact ⟨⟨hx.trans hx', hy.trans hy', hz.trans hz', ha.trans ha'⟩,
    hr.trans hr', hg.trans hg', hb.trans hb'⟩

section stages
variable (m : Params) (c : Controls) (zref zref' : Depth) (fb fb' : FbSample) {f g : Frag8} {k l : Frag9}

/-! ### What a stage copies (40_pipeline.md R132) -/

theorem alphaTestStage_sameValues (f : Frag8) : sameValues (alphaTestStage c f) f :=
  ⟨⟨rfl, rfl, rfl, rfl⟩, rfl, rfl, rfl⟩

theorem dstAlphaTestStage_sameValues (f : Frag8) : sameValues (dstAlphaTestStage c f) f :=
  ⟨⟨rfl, rfl, rfl, rfl⟩, rfl, rfl, rfl⟩

theorem zTestStage_sameValues (f : Frag8) : sameValues (zTestStage c zref f) f :=
  ⟨⟨rfl, rfl, rfl, rfl⟩, rfl, rfl, rfl⟩

theorem alphaBlendStage_samePlace (f : Frag8) : samePlace (alphaBlendStage c fb f) f :=
  ⟨rfl, rfl, rfl, rfl⟩

theorem ditherStage_samePlace (k : Frag9) : samePlace (ditherStage m c k) k := ⟨rfl, rfl, rfl, rfl⟩

/-- The correction of alpha touches its bit 7 alone (46_clamp.md R233, R234). -/
theorem replaceAlphaMsb_low (bit : Bool) (a : U8) :
    (replaceAlphaMsb bit a).extractLsb' 0 7 = a.extractLsb' 0 7 :=
  BitVec.extractLsb'_append_eq_right

/-! ### Values are computed from values (40_pipeline.md R142) -/

theorem alphaTestStage_values (h : sameValues f g) :
    sameValues (alphaTestStage c f) (alphaTestStage c g) :=
  (alphaTestStage_sameValues c f).trans (h.trans (alphaTestStage_sameValues c g).symm)

theorem dstAlphaTestStage_values (h : sameValues f g) :
    sameValues (dstAlphaTestStage c f) (dstAlphaTestStage c g) :=
  (dstAlphaTestStage_sameValues c f).trans (h.trans (dstAlphaTestStage_sameValues c g).symm)

theorem zTestStage_values (h : sameValues f g) :
    sameValues (zTestStage c zref f) (zTestStage c zref' g) :=
  (zTestStage_sameValues c zref f).trans (h.trans (zTestStage_sameValues c zref' g).symm)

theorem alphaBlendStage_values (h : sameValues f g) :
    sameValues (alphaBlendStage c fb f) (alphaBlendStage c fb g) := by
  obtain ⟨⟨hx, hy, hz, ha⟩, hr, hg, hb⟩ := h
  refine ⟨⟨hx, hy, hz, ha⟩, ?_, ?_, ?_⟩
  · rw [alphaBlendStage_r, alphaBlendStage_r, ha, hr]
  · rw [alphaBlendStage_g, alphaBlendStage_g, ha, hg]
  · rw [alphaBlendStage_b, alphaBlendStage_b, ha, hb]

theorem ditherStage_values (h : sameValues k l) :
    sameValues (ditherStage m c k) (ditherStage m c l) := by
  obtain ⟨⟨hx, hy, hz, ha⟩, hr, hg, hb⟩ := h
  refine ⟨⟨hx, hy, hz, ha⟩, ?_, ?_, ?_⟩
  · rw [ditherStage_r, ditherStage_r, hx, hy, hr]
  · rw [ditherStage_g, ditherStage_g, hx, hy, hg]
  · rw [ditherStage_b, ditherStage_b, hx, hy, hb]

theorem clampStage_values (h : sameValues k l) : sameValues (clampStage c k) (clampStage c l) := by
  obtain ⟨⟨hx, hy, hz, ha⟩, hr, hg, hb⟩ := h
  exact ⟨⟨hx, hy, hz, congrArg (replaceAlphaMsb c.alphaBit) ha⟩,
    congrArg c.clamp hr, congrArg c.clamp hg, congrArg c.clamp hb⟩

/-! ### Flags are computed from flags, alpha and depth (40_pipeline.md R142) -/

theorem gateSelected_flags (gates : Gates) (t : Bool) (h : sameFlags f g) :
    sameFlags (f.gateSelected gates t) (g.gateSelected gates t) := by
  obtain ⟨hwc, hwa, hwz⟩ := h
  exact ⟨congrArg (· && (t || !gates.mc)) hwc, congrArg (· && (t || !gates.ma)) hwa,
    congrArg (· && (t || !gates.mz)) hwz⟩

theorem gateAll_flags (t : Bool) (h : sameFlags f g) : sameFlags (f.gateAll t) (g.gateAll t) := by
  obtain ⟨hwc, hwa, hwz⟩ := h
  exact ⟨congrArg (· && t) hwc, congrArg (· && t) hwa, congrArg (· && t) hwz⟩

theorem alphaTestStage_flags (h : sameFlags f g) (ha : f.a = g.a) :
    sameFlags (alphaTestStage c f) (alphaTestStage c g) := by
  rw [alphaTestStage, alphaTestStage, ha]
  exact gateSelected_flags _ _ h

theorem dstAlphaTestStage_flags (h : sameFlags f g) (ha : f.a = g.a) :
    sameFlags (dstAlphaTestStage c f) (dstAlphaTestStage c g) := by
  rw [dstAlphaTestStage, dstAlphaTestStage, ha]
  exact gateAll_flags _ h

theorem zTestStage_flags (h : sameFlags f g) (hz : f.z = g.z) :
    sameFlags (zTestStage c zref f) (zTestStage c zref g) := by
  rw [zTestStage, zTestStage, hz]
  exact gateAll_flags _ h

/-! The last three stages copy the flags, so the premise is the conclusion. -/

theorem alphaBlendStage_flags (h : sameFlags f g) :
    sameFlags (alphaBlendStage c fb f) (alphaBlendStage c fb' g) := h

theorem ditherStage_flags (h : sameFlags k l) : sameFlags (ditherStage m c k) (ditherStage m c l) := h

theorem clampStage_flags (h : sameFlags k l) : sameFlags (clampStage c k) (clampStage c l) := h

end stages

/-! ### A pass -/

section pass
variable (prm : Params) (cfg : CfgWord) {f g : Frag8} (zr zr' : Depth) (fb fb' : FbSample)

theorem pipe_values (h : sameValues f g) :
    sameValues (pipe prm cfg f zr fb) (pipe prm cfg g zr' fb) :=
  clampStage_values _ <| ditherStage_values prm _ <| alphaBlendStage_values _ fb <|
    zTestStage_values _ zr zr' <| dstAlphaTestStage_values _ <| alphaTestStage_values _ h

theorem pipe_flags (h : sameFlags f g) (hz : f.z = g.z) (ha : f.a = g.a) :
    sameFlags (pipe prm cfg f zr fb) (pipe prm cfg g zr fb') :=
  clampStage_flags _ <| ditherStage_flags prm _ <| alphaBlendStage_flags _ fb fb' <|
    zTestStage_flags _ zr (dstAlphaTestStage_flags _ (alphaTestStage_flags _ h ha) ha) hz

end pass

/-- Settles O45: each stage, and so a pass, computes values from values and flags from flags, alpha and
depth. -/
theorem flagsAndColorsDoNotMix : Obligations.FlagsAndColorsDoNotMix := by
  refine ⟨fun prm _ f g zr zr' fb hp hc => ?values8, fun prm _ k m hp hc => ?values9,
    fun prm cfg f g zr fb fb' h => ?flags8, fun prm _ k m h => ?flags9⟩
  case values8 =>
    have h : sameValues f g := ⟨hp, hc⟩
    exact ⟨alphaTestStage_values _ h, dstAlphaTestStage_values _ h, zTestStage_values _ zr zr' h,
      alphaBlendStage_values _ fb h, pipe_values prm _ zr zr' fb h⟩
  case values9 =>
    have h : sameValues k m := ⟨hp, hc⟩
    exact ⟨ditherStage_values prm _ h, clampStage_values _ h⟩
  case flags8 =>
    exact ⟨alphaTestStage_flags _ h, dstAlphaTestStage_flags _ h, zTestStage_flags _ zr h,
      alphaBlendStage_flags _ fb fb' h, pipe_flags prm cfg zr fb fb' h⟩
  case flags9 => exact ⟨ditherStage_flags prm _ h, clampStage_flags _ h⟩

end Sys2Proof.Safety

/-! Runs with `rst` low, lane by lane (40_pipeline.md R133, 47_array_and_config_load.md R241). -/

namespace Sys2Proof.Machine

open Sys2Proof.Safety

/-- The registers of lane `l` after the steps whose ports are listed, `rst` low in each, each step under
the configuration that the one before it left. -/
def laneAfter (prm : Params) (l : Nat) : List Ports → CfgWord → Lane → Lane
  | [], _, lane => lane
  | p :: ps, cfg, lane => laneAfter prm l ps (loadedCfg p cfg) (bareCore prm cfg (p.lane l) lane)

theorem run_succ_of_step {s t : State} (h : step s = .next t) (k : Nat) :
    Host.Core.run core (k + 1) s = Host.Core.run core k t := by
  have hcore : core.step s = .next t := h
  simp only [Host.Core.run, hcore]

/-- A step with `rst` low advances the array under `CFG`. -/
theorem step_of_run {s : State} (h : s.ports.rst = false) :
    step s = .next (s.advance (bareCore s.params s.cfg)) := by
  rw [step_eq_clockEdge, s.clockEdge_of_run _ h]

/-- A run over a script with `rst` low takes every lane where its own ports take it. -/
theorem run_script (ps rest : List Ports) (s : State) (henv : s.env = ps ++ rest)
    (hrst : ∀ p ∈ ps, p.rst = false) :
    ∃ t, Host.Core.run core ps.length s = .next t ∧ t.env = rest ∧
      ∀ l, t.lanes[l]? = s.lanes[l]?.map (laneAfter s.params l ps s.cfg) := by
  induction ps generalizing s with
  | nil => exact ⟨s, rfl, henv, fun l => Option.map_id_apply.symm⟩
  | cons p ps ih =>
    obtain ⟨hp, hps⟩ := List.forall_mem_cons.1 hrst
    have hports : s.ports = p := by rw [State.ports, henv, List.cons_append, List.headD_cons]
    have hstep := step_of_run (s := s) (by rwa [hports])
    obtain ⟨t, hrun, htenv, hlanes⟩ := ih (s.advance (bareCore s.params s.cfg))
      (by rw [State.advance_env, henv, List.cons_append, List.tail_cons]) hps
    refine ⟨t, (run_succ_of_step hstep _).trans hrun, htenv, fun l => ?_⟩
    rw [hlanes, State.advance_lane, Option.map_map, State.advance_params, State.advance_cfg, hports]
    rfl

/-- What `frag_out` shows after a run over a script with `rst` low (40_pipeline.md R134). -/
theorem run_script_fragOut {ps rest : List Ports} {s : State} {l : Nat} (henv : s.env = ps ++ rest)
    (hrst : ∀ p ∈ ps, p.rst = false) (hl : l < s.lanes.length) :
    ∃ t, Host.Core.run core ps.length s = .next t ∧ t.env = rest ∧
      t.fragOut l = some (laneAfter s.params l ps s.cfg s.lanes[l]).s6 := by
  obtain ⟨t, hrun, htenv, hlanes⟩ := run_script ps rest s henv hrst
  refine ⟨t, hrun, htenv, ?_⟩
  simp only [State.fragOut, hlanes, List.getElem?_eq_getElem hl, Option.map_some]

/-- After six steps S6 holds the fragment of the first, each stage's work done under the configuration of
the step that did it (40_pipeline.md R137). -/
theorem laneAfter_six_s6 (prm : Params) (l : Nat) (p0 p1 p2 p3 p4 p5 : Ports) (c0 : CfgWord)
    (lane : Lane) :
    let c1 := loadedCfg p0 c0
    let c2 := loadedCfg p1 c1
    let c3 := loadedCfg p2 c2
    let c4 := loadedCfg p3 c3
    let c5 := loadedCfg p4 c4
    (laneAfter prm l [p0, p1, p2, p3, p4, p5] c0 lane).s6 =
      clamp c5 (dither prm c4 (alphaBlend c3 (p3.lane l).fbIn
        (zTest c2 (p2.lane l).zrefIn (dstAlphaTest c1 (alphaTest c0 (p0.lane l).fragIn))))) := rfl

/-- Settles O41: each stage copies the other fields, and so does their composition, which is what
`frag_out` shows after six steps. -/
theorem stagesCopyTheOtherFields : Obligations.StagesCopyTheOtherFields := by
  constructor
  case left =>
    intro prm cfg zref fb f k
    obtain ⟨hplace1, hr1, hg1, hb1⟩ := alphaTestStage_sameValues (.ofCfg cfg) f
    obtain ⟨hplace2, hr2, hg2, hb2⟩ := dstAlphaTestStage_sameValues (.ofCfg cfg) f
    obtain ⟨hplace3, hr3, hg3, hb3⟩ := zTestStage_sameValues (.ofCfg cfg) zref f
    exact ⟨⟨hplace1, hr1, hg1, hb1, alphaTestStage_flagsWithin _ f⟩,
      ⟨hplace2, hr2, hg2, hb2, dstAlphaTestStage_flagsWithin _ f⟩,
      ⟨hplace3, hr3, hg3, hb3, zTestStage_flagsWithin _ zref f⟩,
      ⟨alphaBlendStage_samePlace _ fb f, alphaBlendStage_sameFlags _ fb f⟩,
      ⟨ditherStage_samePlace prm _ k, ditherStage_sameFlags prm _ k⟩,
      ⟨rfl, rfl, rfl, replaceAlphaMsb_low _ k.a, clampStage_sameFlags _ k⟩⟩
  case right =>
    intro s p0 p1 p2 p3 p4 p5 rest l henv hrst hl
    obtain ⟨t, hrun, -, hout⟩ := run_script_fragOut henv hrst hl
    rw [laneAfter_six_s6] at hout
    exact ⟨t, _, hrun, hout, rfl, rfl, rfl⟩

end Sys2Proof.Machine

/-! A pass that only tests alpha and corrects it (40_pipeline.md R145). -/

namespace Sys2Proof.Machine

/-! ### Units that let a fragment through -/

theorem Frag.gateSelected_true {n : Nat} (g : Gates) (f : Frag n) : f.gateSelected g true = f := by
  simp only [Frag.gateSelected, Bool.true_or, Bool.and_true]

theorem Frag.gateAll_true {n : Nat} (f : Frag n) : f.gateAll true = f := by
  simp only [Frag.gateAll, Bool.and_true]

/-- A channel that is copied up to Clamp comes out of the mask as it went in (46_clamp.md R237). -/
theorem clampMask_widen (c : U8) : clampMask (widen c) = c := by
  rw [widen_eq_setWidth, clampMask, extractLow_setWidth]

/-- A fragment that passes the alpha test, every other unit off, keeps all but bit 7 of its alpha. -/
theorem pipe_of_units_off (prm : Params) {cfg : CfgWord} {k : CfgFields} (hk : unpackCfg cfg = k)
    {f : Frag8} (zr : Depth) (fb : FbSample) (hta : alphaResultOf k f.a = true)
    (hdate : k.date = false) (hzte : k.zte = false) (habe : k.abe = false) (hdthe : k.dthe = false)
    (hclamp : k.clamp = false) :
    pipe prm cfg f zr fb = { f with a := replaceAlphaMsb k.fba f.a } := by
  have hcfg : Controls.ofCfg cfg = .ofFields k := congrArg Controls.ofFields hk
  have halpha : alphaTestStage (.ofFields k) f = f := by
    rw [alphaTestStage, Controls.ofFields_alphaResult, hta, Frag.gateSelected_true]
  have hdst : dstAlphaTestStage (.ofFields k) f = f := by
    simp only [dstAlphaTestStage, Controls.ofFields_dstResult, dstResultOf, hdate, dstOff,
      Bool.false_eq_true, if_false, Frag.gateAll_true]
  have hdepth : zTestStage (.ofFields k) zr f = f := by
    simp only [zTestStage, Controls.ofFields_depthResult, depthResultOf, hzte, depthOff,
      Bool.false_eq_true, if_false, Frag.gateAll_true]
  have hcopied (src dst : U8) : clampOf k (ditherOf k prm.ditherCoordLsb f.x f.y
      (blendChannel (.ofFields k) f.a fb.a src dst)) = src := by
    simp only [blendChannel_ofFields, appliesOf, habe, blendNever, ditherOf, hdthe, ditherCopy,
      clampOf, hclamp, Bool.false_eq_true, if_false, clampMask_widen]
  rw [pipe, alphaTest, dstAlphaTest, zTest, hcfg, halpha, hdst, hdepth]
  simp only [clamp, clampStage, dither, ditherStage, alphaBlend, alphaBlendStage, hcfg,
    Controls.ofFields_dither, Controls.ofFields_clamp, Controls.ofFields_alphaBit, hcopied]

/-! ### The scenario -/

/-- The fields of the scenario's configuration. -/
def scenarioFields (fba : Bool) : CfgFields := { ate := true, atst := 5, aref := 0x40, fba := fba }

theorem unpackCfg_packCfg_scenarioFields (fba : Bool) :
    unpackCfg (packCfg (scenarioFields fba)) = scenarioFields fba := by
  cases fba <;> decide

/-- Settles O46: 0x80 passes GEQUAL 0x40, and every unit but the alpha test and FBA is off. -/
theorem endToEndScenario : Obligations.EndToEndScenario := by
  intro prm x y z zr wc wa wz fba fb
  have hpasses : alphaResultOf (scenarioFields fba) 0x80 = true := rfl
  have halpha : replaceAlphaMsb fba 0x80 = if fba then 0x80 else 0x00 := by cases fba <;> rfl
  rw [← halpha]
  exact pipe_of_units_off prm (unpackCfg_packCfg_scenarioFields fba) zr fb hpasses rfl rfl rfl rfl rfl

end Sys2Proof.Machine

/-! The fields of a disabled unit (30_encoding.md R113): what is in force does not read them, or the
stage that would read them copies. -/

namespace Sys2Proof.Machine

open Sys2Proof.Safety

/-- Each field reads back from the word it is packed into (10_state.md R43, 30_encoding.md R92). -/
theorem unpackCfg_packCfg (f : CfgFields) : unpackCfg (packCfg f) = f := by
  simp only [unpackCfg, packCfg, BitVec.extractLsb'_append_eq_of_le, BitVec.extractLsb'_append_eq_right,
    BitVec.extractLsb'_eq_self, BitVec.getLsbD_append, BitVec.getLsbD_ofBool, Nat.reduceLeDiff,
    Nat.reduceLT, Nat.reduceSub, le_refl, if_true, if_false, decide_true, Bool.true_and]

/-- The bare core under packed fields is a lane's step under the operations the fields put in force. -/
theorem bareCore_packCfg (prm : Params) (f : CfgFields) :
    bareCore prm (packCfg f) = laneStep prm (.ofFields f) := by
  funext p l
  rw [bareCore, Controls.ofCfg, unpackCfg_packCfg]

section disabled
variable {f : CfgFields}

theorem alphaResultOf_of_off (h : f.ate = false) : alphaResultOf f = alphaOff := by
  rw [alphaResultOf, h]
  rfl

theorem dstResultOf_of_off (h : f.date = false) : dstResultOf f = dstOff := by
  rw [dstResultOf, h]
  rfl

theorem depthResultOf_of_off (h : f.zte = false) : depthResultOf f = depthOff := by
  rw [depthResultOf, h]
  rfl

theorem appliesOf_of_off (h : f.abe = false) : appliesOf f = blendNever := by
  rw [appliesOf, h]
  rfl

theorem ditherOf_of_off (h : f.dthe = false) : ditherOf f = ditherCopy := by
  rw [ditherOf, h]
  rfl

/-- A disabled alpha test passes, so no fail-mode gates anything (41_alpha_test.md R151). -/
theorem alphaTestStage_of_off (h : f.ate = false) (k : Frag8) : alphaTestStage (.ofFields f) k = k := by
  rw [alphaTestStage, Controls.ofFields_alphaResult, alphaResultOf_of_off h]
  exact k.gateSelected_true _

/-- Where the equation does not apply every channel is copied (44_alpha_blend.md R191). -/
theorem alphaBlendStage_of_off (h : f.abe = false) (fb : FbSample) (k : Frag8) :
    alphaBlendStage (.ofFields f) fb k = withChannels k fb fun src _ => widen src := by
  simp only [alphaBlendStage, blendChannel_ofFields, appliesOf_of_off h, blendNever, Bool.false_eq_true,
    if_false, withChannels]

end disabled

/-- Settles O18: a disabled DAT, ZT or DTH leaves one operation in force whatever its mode or matrix; a
disabled AT or BLEND leaves its fail-mode or operands in force, but its stage copies. -/
theorem fieldsOfDisabledUnitsAreIgnored : Obligations.FieldsOfDisabledUnitsAreIgnored := by
  intro prm f p lane
  simp only [bareCore_packCfg]
  refine ⟨fun h m r e => ?alphaTest, fun h m => ?dstTest, fun h m => ?depthTest,
    fun h q a b c d x => ?blend, fun h m => ?dither⟩
  case alphaTest =>
    have hstage : alphaTestStage (.ofFields { f with atst := m, aref := r, afail := e }) p.fragIn =
        alphaTestStage (.ofFields f) p.fragIn := by
      simp only [alphaTestStage_of_off, h]
    exact congrArg (fun s1 => { laneStep prm (.ofFields f) p lane with s1 := s1 }) hstage
  case dstTest =>
    have hresult : dstResultOf { f with datm := m } = dstResultOf f := by
      simp only [dstResultOf_of_off, h]
    exact congrArg (fun t => laneStep prm { Controls.ofFields f with dstResult := t } p lane) hresult
  case depthTest =>
    have hresult : depthResultOf { f with ztst := m } = depthResultOf f := by
      simp only [depthResultOf_of_off, h]
    exact congrArg (fun t => laneStep prm { Controls.ofFields f with depthResult := t } p lane) hresult
  case blend =>
    have hstage : alphaBlendStage
        (.ofFields { f with pabe := q, a := a, b := b, c := c, d := d, fix := x }) p.fbIn lane.s3 =
        alphaBlendStage (.ofFields f) p.fbIn lane.s3 := by
      simp only [alphaBlendStage_of_off, h]
    exact congrArg (fun s4 => { laneStep prm (.ofFields f) p lane with s4 := s4 }) hstage
  case dither =>
    have hdither : ditherOf { f with dimx := m } = ditherOf f := by
      simp only [ditherOf_of_off, h]
    exact congrArg (fun t => laneStep prm { Controls.ofFields f with dither := t } p lane) hdither

end Sys2Proof.Machine

/-! Stage 1 under an operation of the groups AT and AFAIL (41_alpha_test.md sections 2 and 3). S1 alone
can differ from what the bare core gives it. -/

namespace Sys2Proof.Machine

/-! ### Selection -/

/-- `decodeGroup_eq_iff` with the mask and match of the row (30_encoding.md R116). For one operation of a
given group a single row is left of the `∃`, since each constructor of `Instr` stands in one row. -/
theorem decodeGroup_eq_some_iff {g : Group} {w : CfgWord} {i : Instr} :
    decodeGroup g w = some i ↔ ∃ r ∈ rows g, w &&& r.mask = r.pattern ∧ i = r.build w := by
  simp only [decodeGroup_eq_iff, Row.selects, beq_iff_eq, eq_comm (a := i)]

/-! ### Equality of alpha values is that of the naturals they stand for (41_alpha_test.md R168) -/

theorem alphaEqual_eq_decide (aref a : U8) : alphaEqual aref a = decide (a.toNat = aref.toNat) :=
  (beq_eq_decide a aref).trans (decide_eq_decide.2 BitVec.toNat_inj.symm)

theorem alphaNotequal_eq_decide (aref a : U8) :
    alphaNotequal aref a = decide (a.toNat ≠ aref.toNat) := by
  rw [decide_not, ← alphaEqual_eq_decide]
  rfl

/-! ### Fail-modes, flag by flag (41_alpha_test.md section 3) -/

section failModes
variable (ta : Bool) (f : Frag8)

theorem gateSelected_keep : f.gateSelected gatesKeep ta =
    { f with wc := f.wc && ta, wa := f.wa && ta, wz := f.wz && ta } := by
  simp [Frag.gateSelected, gatesKeep]

theorem gateSelected_fbOnly : f.gateSelected gatesFbOnly ta = { f with wz := f.wz && ta } := by
  simp [Frag.gateSelected, gatesFbOnly]

theorem gateSelected_zbOnly : f.gateSelected gatesZbOnly ta =
    { f with wc := f.wc && ta, wa := f.wa && ta } := by
  simp [Frag.gateSelected, gatesZbOnly]

/-- The fail-mode that depends on the framebuffer format: FBPSM = 0 is the 32-bit RGBA layout, every
other value behaves as FB_ONLY (41_alpha_test.md R163). -/
theorem gateSelected_rgbOnly (fbpsm : BitVec 6) : f.gateSelected (gatesRgbOnly fbpsm) ta =
    if fbpsm = 0 then { f with wa := f.wa && ta, wz := f.wz && ta }
    else f.gateSelected gatesFbOnly ta := by
  by_cases hformat : fbpsm = 0
  · simp [Frag.gateSelected, gatesRgbOnly, isRgba32, hformat]
  · rw [if_neg hformat, gatesRgbOnly, if_neg (by simpa [isRgba32] using hformat)]

end failModes

/-! ### The edge -/

/-- The edge with `rst` low under an operation that leaves the result `ta` and the gates `gates` in force
for stage 1 and changes nothing for the other stages. -/
theorem exec_of_alphaTestStage (ta : U8 → Bool) (gates : Gates) {i : Instr} {s : State}
    (hrst : s.ports.rst = false)
    (hi : i.change (.ofCfg s.cfg) = { Controls.ofCfg s.cfg with alphaResult := ta, gates := gates }) :
    exec i s = .next (s.advance fun p l => { bareCore s.params s.cfg p l with
      s1 := p.fragIn.gateSelected gates (ta p.fragIn.a) }) := by
  rw [exec_eq_edgeUnder, edgeUnder_eq, s.clockEdge_of_run _ hrst, hi]
  rfl

/-- An operation of the group AT takes the gates from `CFG`. -/
theorem exec_of_alphaResult (ta : U8 → Bool) {i : Instr} {s : State} (hrst : s.ports.rst = false)
    (hi : i.change (.ofCfg s.cfg) = { Controls.ofCfg s.cfg with alphaResult := ta }) :
    exec i s = .next (s.advance fun p l => { bareCore s.params s.cfg p l with
      s1 := p.fragIn.gateSelected (gatesOf (unpackCfg s.cfg)) (ta p.fragIn.a) }) :=
  exec_of_alphaTestStage ta _ hrst hi

/-- An operation of the group AFAIL takes the test result from `CFG`. -/
theorem exec_of_gates (gates : Gates) {i : Instr} {s : State} (hrst : s.ports.rst = false)
    (hi : i.change (.ofCfg s.cfg) = { Controls.ofCfg s.cfg with gates := gates }) :
    exec i s = .next (s.advance fun p l => { bareCore s.params s.cfg p l with
      s1 := p.fragIn.gateSelected gates (alphaResultOf (unpackCfg s.cfg) p.fragIn.a) }) :=
  exec_of_alphaTestStage _ gates hrst hi

/-! ### The operations -/

/-- Settles O19: the result is a constant, and gating by `true` changes no flag. -/
theorem alphaTestOffNeverAlways : Obligations.AlphaTestOffNeverAlways := by
  refine ⟨fun w => ?off, fun w => ?never, fun w => ?always,
    fun s hrst => ⟨?execOff, ?execAlways, ?execNever⟩⟩
  case off | never | always => simp [decodeGroup_eq_some_iff, rows]
  case execOff =>
    simpa only [alphaOff, Frag.gateSelected_true] using exec_of_alphaResult alphaOff hrst rfl
  case execAlways =>
    simpa only [alphaAlways, Frag.gateSelected_true] using exec_of_alphaResult alphaAlways hrst rfl
  case execNever => exact exec_of_alphaResult alphaNever hrst rfl

/-- Settles O20: the rows of the group build six different comparisons from AREF, and the order of words
is by definition that of the naturals they stand for. -/
theorem alphaTestComparisons : Obligations.AlphaTestComparisons := by
  refine ⟨fun w r => ?less, fun w r => ?lequal, fun w r => ?equal, fun w r => ?gequal,
    fun w r => ?greater, fun w r => ?notequal, fun r s hrst => ?exec⟩
  case less | lequal | equal | gequal | greater | notequal =>
    simp [decodeGroup_eq_some_iff, rows, operandAref]
  case exec =>
    simp only [← alphaEqual_eq_decide, ← alphaNotequal_eq_decide]
    exact ⟨exec_of_alphaResult (alphaLess r) hrst rfl, exec_of_alphaResult (alphaLequal r) hrst rfl,
      exec_of_alphaResult (alphaEqual r) hrst rfl, exec_of_alphaResult (alphaGequal r) hrst rfl,
      exec_of_alphaResult (alphaGreater r) hrst rfl, exec_of_alphaResult (alphaNotequal r) hrst rfl⟩

/-- Settles O21: each fail-mode names the flags that the result of `CFG`'s own test is ANDed into. -/
theorem alphaFailModes : Obligations.AlphaFailModes := by
  refine ⟨fun w => ?keep, fun w => ?fbOnly, fun w => ?zbOnly, fun w m => ?rgbOnly,
    fun m s hrst => ?exec⟩
  case keep | fbOnly | zbOnly | rgbOnly => simp [decodeGroup_eq_some_iff, rows, operandFbpsm]
  case exec =>
    simp only [← gateSelected_keep, ← gateSelected_fbOnly, ← gateSelected_zbOnly,
      ← gateSelected_rgbOnly]
    exact ⟨exec_of_gates gatesKeep hrst rfl, exec_of_gates gatesFbOnly hrst rfl,
      exec_of_gates gatesZbOnly hrst rfl, exec_of_gates (gatesRgbOnly m) hrst rfl⟩

end Sys2Proof.Machine

/-! Stage 2 under an operation of the group DAT, and as a function of the configuration word
(42_dst_alpha_test.md sections 2 and 3). S2 alone can differ from what the bare core gives it. -/

namespace Sys2Proof.Machine

/-- A field of a word as digits of the word's number (00_scope.md R9). -/
theorem extractLsb'_toNat_div_mod {n : Nat} (w : BitVec n) (lo len : Nat) :
    (w.extractLsb' lo len).toNat = w.toNat / 2 ^ lo % 2 ^ len := by
  rw [BitVec.extractLsb'_toNat, Nat.shiftRight_eq_div_pow]

/-! ### The results of the test, as comparisons of alpha (42_dst_alpha_test.md R172, R174, R175) -/

theorem highBit_eq_decide (a : U8) : highBit a = decide (0x80 ≤ a.toNat) :=
  (BitVec.msb_eq_getLsbD_last a).symm.trans (BitVec.msb_eq_decide a)

theorem not_hasAlpha_eq_decide (fbpsm : BitVec 6) : (!hasAlpha fbpsm) = decide (fbpsm = 1) := by
  rw [hasAlpha, bne, Bool.not_not, beq_eq_decide]
  rfl

theorem dstExpect0_eq_decide (fbpsm : BitVec 6) (a : U8) :
    dstExpect0 fbpsm a = decide (fbpsm = 1 ∨ a.toNat ≤ 0x7F) := by
  rw [dstExpect0, not_hasAlpha_eq_decide, highBit_eq_decide, ← decide_not, ← Bool.decide_or]
  exact decide_eq_decide.2 (or_congr_right (by omega))

theorem dstExpect1_eq_decide (fbpsm : BitVec 6) (a : U8) :
    dstExpect1 fbpsm a = decide (fbpsm = 1 ∨ 0x80 ≤ a.toNat) := by
  rw [dstExpect1, not_hasAlpha_eq_decide, highBit_eq_decide, Bool.decide_or]

/-! ### The edge -/

/-- The edge with `rst` low under an operation that puts the result `td` in force for stage 2 and changes
nothing for the other stages: `td` gates all three flags (42_dst_alpha_test.md R173). -/
theorem exec_of_dstResult (td : U8 → Bool) {i : Instr} {s : State} (hrst : s.ports.rst = false)
    (hi : i.change (.ofCfg s.cfg) = { Controls.ofCfg s.cfg with dstResult := td }) :
    exec i s = .next (s.advance fun p l => { bareCore s.params s.cfg p l with
      s2 := l.s1.gateAll (td l.s1.a) }) := by
  rw [exec_eq_edgeUnder, edgeUnder_eq, s.clockEdge_of_run _ hrst, hi]
  rfl

/-! ### The operations -/

/-- Settles O22: the result of DAT.OFF is a constant, and gating by `true` changes no flag; the other two
compare the fragment's own alpha with 0x80 unless the format has no alpha. -/
theorem destinationAlphaTestOperations : Obligations.DestinationAlphaTestOperations := by
  refine ⟨fun w => ?off, fun w m => ?expect0, fun w m => ?expect1,
    fun m s hrst => ⟨?execOff, ?execExpect0, ?execExpect1⟩⟩
  case off | expect0 | expect1 => simp [decodeGroup_eq_some_iff, rows, operandFbpsm]
  case execOff => simpa only [dstOff, Frag.gateAll_true] using exec_of_dstResult dstOff hrst rfl
  case execExpect0 =>
    simp only [← dstExpect0_eq_decide]
    exact exec_of_dstResult (dstExpect0 m) hrst rfl
  case execExpect1 =>
    simp only [← dstExpect1_eq_decide]
    exact exec_of_dstResult (dstExpect1 m) hrst rfl

/-! ### The stage function of a configuration word -/

/-- An enabled test asks bit 7 of the fragment's own alpha to equal DATM (R176; decision D15). -/
theorem dstResultOf_of_on {f : CfgFields} (h : f.date = true) (a : U8) :
    dstResultOf f a = decide (f.fbpsm = 1 ∨ a.toNat / 128 = f.datm.toNat) := by
  have ha := a.isLt
  rw [dstResultOf, if_pos h]
  cases f.datm with
  | false =>
    rw [if_neg Bool.false_ne_true, dstExpect0_eq_decide, Bool.toNat_false]
    exact decide_eq_decide.2 (or_congr_right (by omega))
  | true =>
    rw [if_pos rfl, dstExpect1_eq_decide, Bool.toNat_true]
    exact decide_eq_decide.2 (or_congr_right (by omega))

/-- `td` of R176, from the number the configuration word stands for. -/
theorem dstResultOf_unpackCfg (cfg : CfgWord) (a : U8) :
    dstResultOf (unpackCfg cfg) a =
      if cfg.toNat / 2 ^ 14 % 2 = 0 then true
      else if cfg.toNat / 2 ^ 40 % 64 = 1 then true
      else decide (a.toNat / 128 = cfg.toNat / 2 ^ 15 % 2) := by
  have hdate : (unpackCfg cfg).date.toNat = cfg.toNat / 2 ^ 14 % 2 := Nat.toNat_testBit _ 14
  have hdatm : (unpackCfg cfg).datm.toNat = cfg.toNat / 2 ^ 15 % 2 := Nat.toNat_testBit _ 15
  have hfbpsm : (unpackCfg cfg).fbpsm.toNat = cfg.toNat / 2 ^ 40 % 64 :=
    extractLsb'_toNat_div_mod cfg 40 6
  have hformat : (unpackCfg cfg).fbpsm = 1 ↔ (unpackCfg cfg).fbpsm.toNat = 1 :=
    BitVec.toNat_inj.symm
  rw [← hdate, ← hdatm, ← hfbpsm]
  cases hon : (unpackCfg cfg).date with
  | false => rw [dstResultOf_of_off hon, Bool.toNat_false, if_pos rfl, dstOff]
  | true =>
    rw [dstResultOf_of_on hon, Bool.toNat_true, if_neg one_ne_zero, Bool.decide_or,
      decide_eq_decide.2 hformat, Bool.if_true_left]

/-- Settles O34: the stage ANDs the result that DATE, DATM and FBPSM put in force into all three flags. -/
theorem dstAlphaTestFunction : Obligations.DstAlphaTestFunction := by
  intro cfg f
  simp only [← dstResultOf_unpackCfg]
  rfl

end Sys2Proof.Machine

/-! Stage 3 under an operation of the group ZT, and as a function of the configuration word
(43_ztest.md sections 2 and 3). S3 alone can differ from what the bare core gives it. -/

namespace Sys2Proof.Machine

/-- A fragment that fails a test which gates all three flags is a bubble from there on, the rest of it
copied (43_ztest.md R187). -/
theorem Frag.gateAll_false {n : Nat} (f : Frag n) :
    f.gateAll false = { f with wc := false, wa := false, wz := false } := by
  simp only [Frag.gateAll, Bool.and_false]

/-! ### The edge -/

/-- The edge with `rst` low under an operation that puts the result `tz` in force for stage 3 and changes
nothing for the other stages: `tz` compares the fragment in S2 with `zref_in` of the step and gates all
three flags (43_ztest.md R187). -/
theorem exec_of_depthResult (tz : Depth → Depth → Bool) {i : Instr} {s : State}
    (hrst : s.ports.rst = false)
    (hi : i.change (.ofCfg s.cfg) = { Controls.ofCfg s.cfg with depthResult := tz }) :
    exec i s = .next (s.advance fun p l => { bareCore s.params s.cfg p l with
      s3 := l.s2.gateAll (tz l.s2.z p.zrefIn) }) := by
  rw [exec_eq_edgeUnder, edgeUnder_eq, s.clockEdge_of_run _ hrst, hi]
  rfl

/-! ### The operations -/

/-- Settles O23: three results are constants, and gating by a constant keeps or clears all flags; the
order of depth words is by definition that of the naturals they stand for (43_ztest.md R189). -/
theorem depthTestOperations : Obligations.DepthTestOperations := by
  refine ⟨fun w => ?off, fun w => ?never, fun w => ?always, fun w => ?gequal, fun w => ?greater,
    fun s hrst => ⟨?execOff, ?execNever, ?execAlways, ?execGequal, ?execGreater⟩⟩
  case off | never | always | gequal | greater => simp [decodeGroup_eq_some_iff, rows]
  case execOff => simpa only [depthOff, Frag.gateAll_true] using exec_of_depthResult depthOff hrst rfl
  case execNever =>
    simpa only [depthNever, Frag.gateAll_false] using exec_of_depthResult depthNever hrst rfl
  case execAlways =>
    simpa only [depthAlways, Frag.gateAll_true] using exec_of_depthResult depthAlways hrst rfl
  case execGequal => exact exec_of_depthResult depthGequal hrst rfl
  case execGreater => exact exec_of_depthResult depthGreater hrst rfl

/-! ### The stage function of a configuration word -/

/-- The result of an enabled test is the one that stands at ZTST in the list of the four. -/
theorem depthResultOf_of_on {f : CfgFields} (h : f.zte = true) (z zref : Depth) :
    depthResultOf f z zref =
      [false, true, decide (zref.toNat ≤ z.toNat), decide (zref.toNat < z.toNat)].getD
        f.ztst.toNat false := by
  have hlt : f.ztst.toNat < 4 := f.ztst.isLt
  rw [depthResultOf, if_pos h]
  interval_cases f.ztst.toNat <;> rfl

/-- `tz` of R188, from the number the configuration word stands for. -/
theorem depthResultOf_unpackCfg (cfg : CfgWord) (z zref : Depth) :
    depthResultOf (unpackCfg cfg) z zref =
      if cfg.toNat / 2 ^ 16 % 2 = 0 then true else
        [false, true, decide (zref.toNat ≤ z.toNat), decide (zref.toNat < z.toNat)].getD
          (cfg.toNat / 2 ^ 17 % 4) false := by
  have hzte : (unpackCfg cfg).zte.toNat = cfg.toNat / 2 ^ 16 % 2 := Nat.toNat_testBit _ 16
  have hztst : (unpackCfg cfg).ztst.toNat = cfg.toNat / 2 ^ 17 % 4 :=
    extractLsb'_toNat_div_mod cfg 17 2
  rw [← hzte, ← hztst]
  cases hon : (unpackCfg cfg).zte with
  | false => rw [depthResultOf_of_off hon, Bool.toNat_false, if_pos rfl, depthOff]
  | true => rw [depthResultOf_of_on hon, Bool.toNat_true, if_neg one_ne_zero]

/-- Settles O35: the stage ANDs the result that ZTE and ZTST put in force into all three flags. -/
theorem depthTestFunction : Obligations.DepthTestFunction := by
  intro cfg zref f
  simp only [← depthResultOf_unpackCfg]
  rfl

end Sys2Proof.Machine

/-! Stage 4 under an operation of the groups BLEND, A, B, C and D, and as a function of the configuration
word (44_alpha_blend.md sections 2, 4 and 5). S4 alone can differ from what the bare core gives it. -/

namespace Sys2Proof

open Machine

/-- The operation replaces operations of stage 4 only: what the other stages run stays in force. -/
def Instr.ChangesBlendOnly (i : Instr) : Prop :=
  ∀ c : Controls, i.change c = { c with
    applies := (i.change c).applies
    operandA := (i.change c).operandA
    operandB := (i.change c).operandB
    operandC := (i.change c).operandC
    fix := (i.change c).fix
    operandD := (i.change c).operandD }

end Sys2Proof

namespace Sys2Proof.Machine

open Sys2Proof.Safety

/-! ### One channel and one fragment (44_alpha_blend.md R210, R215, R216) -/

/-- The model's shift by 7 rounds toward minus infinity, as the division does (R212; decision D12). -/
theorem blend_eq_equation (a b c d : Int) : blend a b c d = equation a b c d := by
  rw [equation, Int.fdiv_eq_ediv_of_nonneg _ (by decide)]
  rfl

/-- The three channels go through one function, and every other field is copied. -/
theorem alphaBlendStage_eq_withChannels (c : Controls) (fb : FbSample) (f : Frag8) :
    alphaBlendStage c fb f = withChannels f fb fun src dst =>
      if c.applies f.a then
        equation (rgbOperand c.operandA src dst) (rgbOperand c.operandB src dst)
          (alphaOperand c.operandC c.fix f.a fb.a) (rgbOperand c.operandD src dst)
      else src.setWidth 9 := by
  simp only [← blend_eq_equation, ← widen_eq_setWidth]
  rfl

/-! ### The edge -/

/-- The edge with `rst` low under an operation of stage 4: S4 is computed under what the operation puts
in force, every other register under `CFG`. -/
theorem exec_of_changesBlendOnly {i : Instr} {s : State} (hrst : s.ports.rst = false)
    (hi : i.ChangesBlendOnly) :
    let c := i.change (.ofCfg s.cfg)
    exec i s = .next (s.advance fun p l => { bareCore s.params s.cfg p l with
      s4 := withChannels l.s3 p.fbIn fun src fb =>
        if c.applies l.s3.a then
          equation (rgbOperand c.operandA src fb) (rgbOperand c.operandB src fb)
            (alphaOperand c.operandC c.fix l.s3.a p.fbIn.a) (rgbOperand c.operandD src fb)
        else src.setWidth 9 }) := by
  simp only [← alphaBlendStage_eq_withChannels]
  rw [exec_eq_edgeUnder, edgeUnder_eq, s.clockEdge_of_run _ hrst, hi]
  rfl

/-! ### The operations -/

/-- Settles O24: the operations differ in when the equation applies; under BLEND.PABE it does where bit 7
of the fragment's alpha is set, which is from 0x80 on. -/
theorem blendEnableOperations : Obligations.BlendEnableOperations := by
  refine ⟨fun w => ?off, fun w => ?all, fun w => ?pabe, fun s hrst => ⟨?execOff, ?execAll, ?execPabe⟩⟩
  case off | all | pabe => simp [decodeGroup_eq_some_iff, rows]
  case execOff | execAll => exact exec_of_changesBlendOnly hrst fun _ => rfl
  case execPabe =>
    simp only [← highBit_eq_decide]
    exact exec_of_changesBlendOnly hrst fun _ => rfl

/-- Settles O25: the operation puts its selector in force for A, and `CFG` gives the rest. -/
theorem blendOperandA : Obligations.BlendOperandA := by
  refine ⟨fun w => ?src, fun w => ?fb, fun w => ?zero, fun s hrst => ⟨?execSrc, ?execFb, ?execZero⟩⟩
  case src | fb | zero => simp [decodeGroup_eq_some_iff, rows]
  case execSrc | execFb | execZero => exact exec_of_changesBlendOnly hrst fun _ => rfl

/-- Settles O26: the operation puts its selector in force for B, and `CFG` gives the rest. -/
theorem blendOperandB : Obligations.BlendOperandB := by
  refine ⟨fun w => ?src, fun w => ?fb, fun w => ?zero, fun s hrst => ⟨?execSrc, ?execFb, ?execZero⟩⟩
  case src | fb | zero => simp [decodeGroup_eq_some_iff, rows]
  case execSrc | execFb | execZero => exact exec_of_changesBlendOnly hrst fun _ => rfl

/-- Settles O27: the operation puts its selector in force for C, C.FIX its constant too, and `CFG` gives
the rest. -/
theorem blendOperandC : Obligations.BlendOperandC := by
  refine ⟨fun w => ?sourceAlpha, fun w => ?fbAlpha, fun w x => ?fix,
    fun x s hrst => ⟨?execSourceAlpha, ?execFbAlpha, ?execFix⟩⟩
  case sourceAlpha | fbAlpha | fix => simp [decodeGroup_eq_some_iff, rows, operandFix]
  case execSourceAlpha | execFbAlpha | execFix => exact exec_of_changesBlendOnly hrst fun _ => rfl

/-- Settles O28: the operation puts its selector in force for D, and `CFG` gives the rest. -/
theorem blendOperandD : Obligations.BlendOperandD := by
  refine ⟨fun w => ?src, fun w => ?fb, fun w => ?zero, fun s hrst => ⟨?execSrc, ?execFb, ?execZero⟩⟩
  case src | fb | zero => simp [decodeGroup_eq_some_iff, rows]
  case execSrc | execFb | execZero => exact exec_of_changesBlendOnly hrst fun _ => rfl

/-! ### The stage function of a configuration word -/

/-- `selRGB` of R215: the operand is the one that stands at the field's value in the list of the four
(the last of them by decision D9). -/
theorem colorOf_eq_getD (v : BitVec 2) (src fb : U8) :
    colorOf v src fb = [(src.toNat : Int), (fb.toNat : Int), 0, 0].getD v.toNat 0 := by
  have hlt : v.toNat < 4 := v.isLt
  rw [colorOf, decodeRgbSel]
  interval_cases v.toNat <;> rfl

/-- `Cv` of R215: the operand is the one that stands at C's value in the list of the four (the last of
them by decision D9). -/
theorem alphaOperandOf_eq_getD (f : CfgFields) (srcA fbA : U8) :
    alphaOperandOf f srcA fbA =
      [(srcA.toNat : Int), (fbA.toNat : Int), (f.fix.toNat : Int), (f.fix.toNat : Int)].getD
        f.c.toNat 0 := by
  have hlt : f.c.toNat < 4 := f.c.isLt
  rw [alphaOperandOf, decodeAlphaSel]
  interval_cases f.c.toNat <;> rfl

/-- When the equation applies: ABE, and with PABE bit 7 of the fragment's alpha (R191 to R193). -/
theorem appliesOf_eq_decide (f : CfgFields) (a : U8) :
    appliesOf f a = decide (f.abe.toNat = 1 ∧ (f.pabe.toNat = 0 ∨ a.toNat / 128 = 1)) := by
  have ha := a.isLt
  have hhigh : highBit a = decide (a.toNat / 128 = 1) :=
    (highBit_eq_decide a).trans (decide_eq_decide.2 (by omega))
  cases habe : f.abe with
  | false => simp [appliesOf_of_off habe, blendNever]
  | true => cases hpabe : f.pabe <;> simp [appliesOf, habe, hpabe, blendAlways, blendPerPixel, hhigh]

/-- Settles O36: the fields of the word are digits of its number, and each operand and the enable stand
in the stage as these digits say. -/
theorem alphaBlendFunction : Obligations.AlphaBlendFunction := by
  intro cfg fb f
  have habe : (unpackCfg cfg).abe.toNat = cfg.toNat / 2 ^ 19 % 2 := Nat.toNat_testBit _ 19
  have hpabe : (unpackCfg cfg).pabe.toNat = cfg.toNat / 2 ^ 20 % 2 := Nat.toNat_testBit _ 20
  have ha : (unpackCfg cfg).a.toNat = cfg.toNat / 2 ^ 21 % 4 := extractLsb'_toNat_div_mod cfg 21 2
  have hb : (unpackCfg cfg).b.toNat = cfg.toNat / 2 ^ 23 % 4 := extractLsb'_toNat_div_mod cfg 23 2
  have hc : (unpackCfg cfg).c.toNat = cfg.toNat / 2 ^ 25 % 4 := extractLsb'_toNat_div_mod cfg 25 2
  have hd : (unpackCfg cfg).d.toNat = cfg.toNat / 2 ^ 27 % 4 := extractLsb'_toNat_div_mod cfg 27 2
  have hfix : (unpackCfg cfg).fix.toNat = cfg.toNat / 2 ^ 29 % 256 :=
    extractLsb'_toNat_div_mod cfg 29 8
  simp only [← habe, ← hpabe, ← ha, ← hb, ← hc, ← hd, ← hfix, ← appliesOf_eq_decide, ← colorOf_eq_getD,
    ← alphaOperandOf_eq_getD]
  exact alphaBlendStage_eq_withChannels (.ofCfg cfg) fb f

end Sys2Proof.Machine

/-! Stage 5 under an operation of the group DTH, and as a function of the configuration word
(45_dither.md sections 2 to 4). S5 alone can differ from what the bare core gives it. -/

namespace Sys2Proof.Machine

open Sys2Proof.Safety

/-! ### The offset of a position (45_dither.md R221, R222) -/

/-- The index as a digit of the coordinate's number; bits above the coordinate's width are 0. -/
theorem ditherIndex_toNat (lsb : Nat) (v : Coord) :
    (ditherIndex lsb v).toNat = v.toNat / 2 ^ lsb % 4 :=
  extractLsb'_toNat_div_mod v lsb 2

/-- A cell is two's complement in 3 bits: its values from 4 on are negative (decision D16). -/
theorem sext_cell (v : BitVec 3) :
    sext v = if v.toNat < 4 then (v.toNat : Int) else (v.toNat : Int) - 8 := by
  have hsign : 2 * v.toNat < 2 ^ 3 ↔ v.toNat < 4 := by omega
  rw [sext, BitVec.toInt_eq_toNat_cond, if_congr hsign rfl rfl]
  rfl

/-- The sum of R225 with the cell where row-major order puts it in DIMX (decision D18). -/
theorem ditherAdd_eq_ofInt (dimx : BitVec 64) (lsb : Nat) (x y : Coord) (c : U9) :
    ditherAdd dimx lsb x y c = BitVec.ofInt 9 (c.toNat +
      (dimx.extractLsb' (4 * (4 * (y.toNat / 2 ^ lsb % 4) + x.toNat / 2 ^ lsb % 4)) 3).toInt) := by
  rw [← ditherIndex_toNat, ← ditherIndex_toNat]
  rfl

/-! ### The stage -/

/-- The three channels go through one function of the position, and every other field is copied. -/
theorem ditherStage_eq_mapChannels (m : Params) (c : Controls) (k : Frag9) :
    ditherStage m c k = mapChannels (c.dither m.ditherCoordLsb k.x k.y) k := rfl

/-- The edge with `rst` low under an operation that puts `d` in force for stage 5 and changes nothing for
the other stages. -/
theorem exec_of_dither (d : Nat → Coord → Coord → U9 → U9) {i : Instr} {s : State}
    (hrst : s.ports.rst = false)
    (hi : i.change (.ofCfg s.cfg) = { Controls.ofCfg s.cfg with dither := d }) :
    exec i s = .next (s.advance fun p l => { bareCore s.params s.cfg p l with
      s5 := mapChannels (d s.params.ditherCoordLsb l.s4.x l.s4.y) l.s4 }) := by
  rw [exec_eq_edgeUnder, edgeUnder_eq, s.clockEdge_of_run _ hrst, hi]
  rfl

/-! ### The operations -/

/-- Settles O30: DTH.OFF puts the identity in force for each channel, DTH.ON the sum with the cell of the
fragment's position. -/
theorem ditherOperations : Obligations.DitherOperations := by
  refine ⟨fun w => ?off, fun w m => ?on, fun m s hrst => ⟨?execOff, ?execOn⟩⟩
  case off | on => simp [decodeGroup_eq_some_iff, rows, operandDimx]
  case execOff => exact exec_of_dither ditherCopy hrst rfl
  case execOn =>
    simp only [← ditherAdd_eq_ofInt]
    exact exec_of_dither (ditherAdd m) hrst rfl

/-! ### The stage function of a configuration word -/

theorem ditherOf_of_on {f : CfgFields} (h : f.dthe = true) : ditherOf f = ditherAdd f.dimx := by
  rw [ditherOf, if_pos h]

/-- A channel after Dither is the sum with the offset where DTHE is set, and the channel itself where it
is not. -/
theorem ditherOf_eq_ite (f : CfgFields) (lsb : Nat) (x y : Coord) (c : U9) :
    ditherOf f lsb x y c =
      if f.dthe.toNat = 1 then BitVec.ofInt 9 (c.toNat + ditherOffset lsb f.dimx x y) else c := by
  cases h : f.dthe with
  | false => rw [ditherOf_of_off h, Bool.toNat_false, if_neg zero_ne_one, ditherCopy]
  | true =>
    rw [ditherOf_of_on h, Bool.toNat_true, if_pos rfl]
    rfl

/-- DM[row][col] of R227, from the number the configuration word stands for. -/
theorem ditherCell_unpackCfg_toNat (cfg : CfgWord) (lsb : Nat) (x y : Coord) :
    (ditherCell (unpackCfg cfg).dimx (ditherIndex lsb y) (ditherIndex lsb x)).toNat =
      cfg.toNat / 2 ^ (64 + 4 * (4 * (y.toNat / 2 ^ lsb % 4) + x.toNat / 2 ^ lsb % 4)) % 8 := by
  rw [ditherCell_unpackCfg, extractLsb'_toNat_div_mod, ditherIndex_toNat, ditherIndex_toNat]
  rfl

/-- Settles O37: the stage maps each channel by what DTHE and the matrix of the word put in force, and
both are digits of the word's number. -/
theorem ditherFunction : Obligations.DitherFunction := by
  intro prm cfg f
  have hdthe : (unpackCfg cfg).dthe.toNat = cfg.toNat / 2 ^ 37 % 2 := Nat.toNat_testBit _ 37
  simp only [← hdthe, ← ditherCell_unpackCfg_toNat, ← sext_cell]
  exact congrArg (mapChannels · f) (funext (ditherOf_eq_ite (unpackCfg cfg) prm.ditherCoordLsb f.x f.y))

end Sys2Proof.Machine

/-! Stage 6 under an operation of the groups CLAMP and FBA, and as a function of the configuration word
(46_clamp.md sections 2 to 4), and what a pass that ends in it gives beside the flags (40_pipeline.md
section 6). S6 alone can differ from what the bare core gives it. -/

namespace Sys2Proof.Machine

open Sys2Proof.Safety

/-! ### One channel, in numbers (46_clamp.md R231, R232) -/

theorem clampMask_toNat (c : U9) : (clampMask c).toNat = c.toNat % 256 :=
  BitVec.extractLsb'_toNat 0 8 c

/-- Up to 255 the low 8 bits are the whole channel, so saturation is a minimum. -/
theorem clampSaturate_toNat (c : U9) :
    (clampSaturate c).toNat = if 255 < c.toNat then 255 else c.toNat := by
  have hlow : (c.extractLsb' 0 8).toNat = c.toNat % 256 := clampMask_toNat c
  by_cases hover : 255 < c.toNat
  · rw [clampSaturate, if_pos (BitVec.ult_iff_lt.2 hover), if_pos hover]
    rfl
  · rw [clampSaturate, if_neg (hover ∘ BitVec.ult_iff_lt.1), if_neg hover, hlow]
    omega

theorem clampMask_eq_ofNat (c : U9) : clampMask c = BitVec.ofNat 8 (c.toNat % 256) := by
  rw [← clampMask_toNat, BitVec.ofNat_toNat, BitVec.setWidth_eq]

theorem clampSaturate_eq_ofNat (c : U9) :
    clampSaturate c = BitVec.ofNat 8 (if 255 < c.toNat then 255 else c.toNat) := by
  rw [← clampSaturate_toNat, BitVec.ofNat_toNat, BitVec.setWidth_eq]

/-- Settles O56: each mode's number is known, and the three ranges are arithmetic on it. -/
theorem clampModesCompared : Obligations.ClampModesCompared := by
  refine fun c => ⟨fun hfits => ?fits, fun htop => ?top, fun hlow hhigh => ?between⟩
  case fits =>
    rw [clampSaturate_toNat, clampMask_toNat, if_neg (by omega), Nat.mod_eq_of_lt (by omega)]
    exact ⟨rfl, rfl⟩
  case top =>
    rw [clampSaturate_eq_ofNat, clampMask_eq_ofNat, htop]
    exact ⟨rfl, rfl⟩
  case between =>
    rw [clampSaturate_toNat, clampMask_toNat, if_pos (by omega)]
    exact ⟨rfl, by omega⟩

/-! ### Bit 7 of alpha (46_clamp.md R233, R234) -/

/-- The replaced bit stands above the low 7, which are kept. -/
theorem replaceAlphaMsb_toNat (bit : Bool) (a : U8) :
    (replaceAlphaMsb bit a).toNat = 128 * bit.toNat + a.toNat % 128 := by
  have hlow : (a.extractLsb' 0 7).toNat = a.toNat % 128 := BitVec.extractLsb'_toNat 0 7 a
  rw [replaceAlphaMsb, BitVec.toNat_append, ← Nat.shiftLeft_add_eq_or_of_lt (BitVec.isLt _),
    Nat.shiftLeft_eq, hlow, BitVec.toNat_ofBool, Nat.mul_comm]

theorem replaceAlphaMsb_eq_ofNat (bit : Bool) (a : U8) :
    replaceAlphaMsb bit a = BitVec.ofNat 8 (128 * bit.toNat + a.toNat % 128) := by
  rw [← replaceAlphaMsb_toNat, BitVec.ofNat_toNat, BitVec.setWidth_eq]

theorem replaceAlphaMsb_false (a : U8) : replaceAlphaMsb false a = a &&& 0x7F#8 := by
  apply BitVec.eq_of_toNat_eq
  rw [replaceAlphaMsb_toNat, Bool.toNat_false, Nat.mul_zero, Nat.zero_add, BitVec.toNat_and]
  exact (Nat.and_two_pow_sub_one_eq_mod a.toNat 7).symm

theorem replaceAlphaMsb_true (a : U8) : replaceAlphaMsb true a = (a &&& 0x7F#8) ||| 0x80#8 := by
  have hlow : a.toNat % 128 < 2 ^ 7 := Nat.mod_lt _ (by decide)
  apply BitVec.eq_of_toNat_eq
  rw [← replaceAlphaMsb_false, BitVec.or_comm, BitVec.toNat_or, replaceAlphaMsb_toNat,
    replaceAlphaMsb_toNat, Bool.toNat_true, Bool.toNat_false, Nat.mul_one, Nat.mul_zero, Nat.zero_add]
  exact Nat.two_pow_add_eq_or_of_lt hlow 1

/-! ### The edge -/

/-- The three channels go through one function, and every other field but alpha is copied. -/
theorem clampStage_eq_mapChannels (c : Controls) (k : Frag9) :
    clampStage c k = { mapChannels c.clamp k with a := replaceAlphaMsb c.alphaBit k.a } := rfl

/-- The edge with `rst` low under an operation that leaves the channel function `ch` and the bit `bit` in
force for stage 6 and changes nothing for the other stages. -/
theorem exec_of_clampStage (ch : U9 → U8) (bit : Bool) {i : Instr} {s : State}
    (hrst : s.ports.rst = false)
    (hi : i.change (.ofCfg s.cfg) = { Controls.ofCfg s.cfg with clamp := ch, alphaBit := bit }) :
    exec i s = .next (s.advance fun p l => { bareCore s.params s.cfg p l with
      s6 := { mapChannels ch l.s5 with a := replaceAlphaMsb bit l.s5.a } }) := by
  rw [exec_eq_edgeUnder, edgeUnder_eq, s.clockEdge_of_run _ hrst, hi]
  rfl

/-- An operation of the group CLAMP leaves alpha to `CFG`. -/
theorem exec_of_clamp (ch : U9 → U8) {i : Instr} {s : State} (hrst : s.ports.rst = false)
    (hi : i.change (.ofCfg s.cfg) = { Controls.ofCfg s.cfg with clamp := ch }) :
    exec i s = .next (s.advance fun p l => { bareCore s.params s.cfg p l with
      s6 := { mapChannels ch l.s5 with a := (bareCore s.params s.cfg p l).s6.a } }) :=
  exec_of_clampStage ch _ hrst hi

/-- An operation of the group FBA leaves the channels to `CFG`. -/
theorem exec_of_alphaBit (bit : Bool) {i : Instr} {s : State} (hrst : s.ports.rst = false)
    (hi : i.change (.ofCfg s.cfg) = { Controls.ofCfg s.cfg with alphaBit := bit }) :
    exec i s = .next (s.advance fun p l => { bareCore s.params s.cfg p l with
      s6 := { (bareCore s.params s.cfg p l).s6 with a := replaceAlphaMsb bit l.s5.a } }) :=
  exec_of_clampStage _ bit hrst hi

/-! ### The operations -/

/-- Settles O31: the two operations put the mask and the saturation in force for each channel. -/
theorem clampOperations : Obligations.ClampOperations := by
  refine ⟨fun w => ?mask, fun w => ?clamp, fun s hrst => ?exec⟩
  case mask | clamp => simp [decodeGroup_eq_some_iff, rows]
  case exec =>
    simp only [← clampMask_eq_ofNat, ← clampSaturate_eq_ofNat]
    exact ⟨exec_of_clamp clampMask hrst rfl, exec_of_clamp clampSaturate hrst rfl⟩

/-- Settles O32: the two operations put the bit 0 and the bit 1 in force, and replacing bit 7 by one of
them is a mask. -/
theorem alphaCorrectionOperations : Obligations.AlphaCorrectionOperations := by
  refine ⟨fun w => ?zero, fun w => ?one, fun s hrst => ⟨?execZero, ?execOne⟩⟩
  case zero | one => simp [decodeGroup_eq_some_iff, rows]
  case execZero => simpa only [replaceAlphaMsb_false] using exec_of_alphaBit false hrst rfl
  case execOne => simpa only [replaceAlphaMsb_true] using exec_of_alphaBit true hrst rfl

/-! ### The stage function of a configuration word -/

/-- The channel function of R236, by the field CLAMP. -/
theorem clampOf_eq_ofNat (f : CfgFields) (c : U9) :
    clampOf f c = BitVec.ofNat 8
      (if f.clamp.toNat = 1 then (if 255 < c.toNat then 255 else c.toNat) else c.toNat % 256) := by
  rw [clampOf]
  cases f.clamp with
  | false => exact clampMask_eq_ofNat c
  | true => exact clampSaturate_eq_ofNat c

/-- Settles O38: the stage maps each channel by what CLAMP puts in force and gives alpha the bit FBA, and
both fields are digits of the word's number. -/
theorem clampFunction : Obligations.ClampFunction := by
  intro cfg f
  have hclamp : (unpackCfg cfg).clamp.toNat = cfg.toNat / 2 ^ 38 % 2 := Nat.toNat_testBit _ 38
  have hfba : (unpackCfg cfg).fba.toNat = cfg.toNat / 2 ^ 39 % 2 := Nat.toNat_testBit _ 39
  simp only [← hclamp, ← hfba, ← clampOf_eq_ofNat, ← replaceAlphaMsb_eq_ofNat]
  exact clampStage_eq_mapChannels (.ofCfg cfg) f

/-! ### The values of a pass (40_pipeline.md section 6) -/

/-- Settles O43: the tests copy every value, so AlphaBlend reads those presented; Dither and Clamp map its
channels, Dither by the position, which is copied up to there, and Clamp alone replaces a bit of alpha. -/
theorem passValues : Obligations.PassValues := by
  intro prm cfg f zr fb
  simp only [← widen_eq_setWidth, ← blendChannel_ofFields]
  exact ⟨rfl, rfl, rfl, rfl, rfl, rfl, rfl⟩

end Sys2Proof.Machine

/-! A lane of the array and the same lane alone (47_array_and_config_load.md R240, R241): looking at one
lane commutes with every clock edge, and so with every run. -/

namespace Sys2Proof.Machine

open Sys2Proof.Safety

@[ext] theorem State.ext {s t : State} (lanes : s.lanes = t.lanes) (cfg : s.cfg = t.cfg)
    (env : s.env = t.env) (params : s.params = t.params) : s = t := by
  obtain ⟨_, _, _, _⟩ := s
  exact (State.mk.injEq ..).mpr ⟨lanes, cfg, env, params⟩

section onlyLane
variable (l : Nat) (s : State)

/-! ### What a lane alone sees of the array -/

@[simp] theorem onlyLane_lanes : (onlyLane l s).lanes = s.lanes[l]?.toList := rfl

@[simp] theorem onlyLane_cfg : (onlyLane l s).cfg = s.cfg := rfl

@[simp] theorem onlyLane_env :
    (onlyLane l s).env = s.env.map fun p => { p with lanes := [p.lane l] } := rfl

@[simp] theorem onlyLane_params : (onlyLane l s).params = s.params := rfl

/-- A step is presented the idle ports past the script's end, else what its record says for the lane. -/
theorem onlyLane_ports : (onlyLane l s).ports =
    if s.env = [] then Ports.idle else { s.ports with lanes := [s.ports.lane l] } := by
  cases henv : s.env <;> simp [State.ports, henv]

theorem ports_of_env_nil {s : State} (h : s.env = []) : s.ports = Ports.idle := by
  rw [State.ports, h, List.headD_nil]

theorem onlyLane_rst : (onlyLane l s).ports.rst = s.ports.rst := by
  rw [onlyLane_ports]
  split
  case isTrue h => rw [ports_of_env_nil h]
  case isFalse => rfl

theorem onlyLane_loadedCfg (cfg : CfgWord) :
    loadedCfg (onlyLane l s).ports cfg = loadedCfg s.ports cfg := by
  rw [onlyLane_ports]
  split
  case isTrue h => rw [ports_of_env_nil h]
  case isFalse => rfl

/-- The ports of the lane that is alone are those it has in the array. -/
theorem onlyLane_ports_lane : (onlyLane l s).ports.lane 0 = s.ports.lane l := by
  rw [onlyLane_ports]
  split
  case isTrue h => rw [ports_of_env_nil h]; rfl
  case isFalse => rfl

/-! ### Looking at a lane commutes with an edge and with a run -/

theorem onlyLane_advance (next : LanePorts → Lane → Lane) :
    (onlyLane l s).advance next = onlyLane l (s.advance next) := by
  ext : 1
  case lanes =>
    rw [State.advance_lanes, onlyLane_lanes, onlyLane_lanes, State.advance_lane]
    cases s.lanes[l]? with
    | none => rfl
    | some lane => exact congrArg (fun p => [next p lane]) (onlyLane_ports_lane l s)
  case cfg => exact onlyLane_loadedCfg l s s.cfg
  case env => exact List.map_tail.symm
  case params => rfl

theorem onlyLane_resetEdge : (onlyLane l s).resetEdge = onlyLane l s.resetEdge := by
  ext : 1
  case lanes =>
    rw [State.resetEdge_lanes, onlyLane_lanes, onlyLane_lanes, State.resetEdge_lanes, List.getElem?_map]
    exact Option.toList_map.symm
  case cfg => rfl
  case env => exact List.map_tail.symm
  case params => rfl

theorem onlyLane_clockEdge (next : LanePorts → Lane → Lane) :
    (onlyLane l s).clockEdge next = onlyLane l (s.clockEdge next) := by
  rcases s.clockEdge_cases next with ⟨hrst, hedge⟩ | ⟨hrst, hedge⟩
  · rw [hedge, State.clockEdge_of_rst _ _ ((onlyLane_rst l s).trans hrst), onlyLane_resetEdge]
  · rw [hedge, State.clockEdge_of_run _ _ ((onlyLane_rst l s).trans hrst), onlyLane_advance]

variable {l s}

/-- A lane alone takes the step it takes in the array. -/
theorem step_onlyLane {t : State} (h : step s = .next t) :
    step (onlyLane l s) = .next (onlyLane l t) := by
  obtain rfl : s.clockEdge (bareCore s.params s.cfg) = t :=
    Host.Outcome.next.inj ((step_eq_clockEdge s).symm.trans h)
  rw [step_eq_clockEdge, onlyLane_params, onlyLane_cfg, onlyLane_clockEdge]

end onlyLane

/-- The commuting square of `step_onlyLane`, `k` times over. -/
theorem run_onlyLane (k : Nat) (l : Nat) (s : State) :
    ∃ t, Host.Core.run core k s = .next t ∧
      Host.Core.run core k (onlyLane l s) = .next (onlyLane l t) := by
  induction k generalizing s with
  | zero => exact ⟨s, rfl, rfl⟩
  | succ k ih =>
    have hstep := step_eq_clockEdge s
    rw [run_succ_of_step hstep, run_succ_of_step (step_onlyLane hstep)]
    exact ih _

/-- Settles O51: a step with `rst` low advances each lane by its own ports, and a run of the array is a
run of each lane alone, by induction on the number of steps. -/
theorem lanesAreIndependent : Obligations.LanesAreIndependent :=
  ⟨fun s hrst => ⟨_, step_of_run hrst, s.advance_lane (bareCore s.params s.cfg)⟩,
    fun k s l => run_onlyLane k l s⟩

end Sys2Proof.Machine

/-! Totality of the step (60_exceptions.md R250). -/

namespace Sys2Proof

/-- Settles O2: in every state, with `rst` high or low, the step is the clock edge of the bare core, since
each word of `CFG` is read as some operation and the meaning of each operation is an edge. -/
theorem stepAlwaysGivesANextState : Obligations.StepAlwaysGivesANextState :=
  fun s => ⟨s.clockEdge (Machine.bareCore s.params s.cfg), step_eq_clockEdge s⟩

end Sys2Proof

/-! Encoding (30_encoding.md sections 6 and 7): the word of an operation or of a list of operations
decodes to what it names, and an operation means the clock edge with its word in its place of `CFG`. -/

namespace Sys2Proof.Laws.EncodesItsRow

/-- The word of every operation selects its row, and the row builds the operation back. -/
theorem encodesItsRow (i : Instr) : Statement i :=
  match i with
  | .atOff => atOff
  | .atNever => atNever
  | .atAlways => atAlways
  | .atLess r => atLess r
  | .atLequal r => atLequal r
  | .atEqual r => atEqual r
  | .atGequal r => atGequal r
  | .atGreater r => atGreater r
  | .atNotequal r => atNotequal r
  | .afailKeep => afailKeep
  | .afailFbOnly => afailFbOnly
  | .afailZbOnly => afailZbOnly
  | .afailRgbOnly m => afailRgbOnly m
  | .datOff => datOff
  | .datExpect0 m => datExpect0 m
  | .datExpect1 m => datExpect1 m
  | .ztOff => ztOff
  | .ztNever => ztNever
  | .ztAlways => ztAlways
  | .ztGequal => ztGequal
  | .ztGreater => ztGreater
  | .blendOff => blendOff
  | .blendAll => blendAll
  | .blendPabe => blendPabe
  | .aSrc => aSrc
  | .aFb => aFb
  | .aZero => aZero
  | .aRsvd => aRsvd
  | .bSrc => bSrc
  | .bFb => bFb
  | .bZero => bZero
  | .bRsvd => bRsvd
  | .cAs => cAs
  | .cAd => cAd
  | .cFix x => cFix x
  | .cRsvd x => cRsvd x
  | .dSrc => dSrc
  | .dFb => dFb
  | .dZero => dZero
  | .dRsvd => dRsvd
  | .dthOff => dthOff
  | .dthOn m => dthOn m
  | .clampMask => clampMask
  | .clampClamp => clampClamp
  | .fba0 => fba0
  | .fba1 => fba1

end Sys2Proof.Laws.EncodesItsRow

namespace Sys2Proof

open Machine Safety

/-! ### One operation -/

/-- Settles O10: the word of an operation selects its row, and no other row of its group. -/
theorem decodeOfEncodeIsTheOperation : Obligations.DecodeOfEncodeIsTheOperation :=
  fun i => decodeGroup_eq_iff.2 (Laws.EncodesItsRow.encodesItsRow i)

/-- A format that a selected operation carries is the word's field FBPSM (10_state.md R43). -/
theorem format_of_selected {g : Group} {w : CfgWord} {i : Instr} (h : decodeGroup g w = some i)
    {f : BitVec 6} (hf : i.format? = some f) : f = operandFbpsm w := by
  obtain ⟨r, hr, -, rfl⟩ := decodeGroup_eq_iff.1 h
  exact build_format g w r hr f hf

/-! ### The bits an operation uses -/

/-- The field FBPSM, which the groups AFAIL and DAT share (30_encoding.md R91). -/
def fbpsmBits : CfgWord := placed 6 40 (BitVec.allOnes 6)

/-- The bits an operation of the group uses: the group's own, and FBPSM if the operation has a format. -/
def bitsOf (g : Group) (hasFormat : Bool) : CfgWord := groupBits g ||| if hasFormat then fbpsmBits else 0#128

/-- All the bits that matter to whether a word selects the operation. -/
def Instr.bits (i : Instr) : CfgWord := bitsOf i.group i.format?.isSome

/-- A field whose place lies within a mask is a part of the mask. -/
theorem placed_within {n lo : Nat} (mask : CfgWord) (v : BitVec n) (hn : lo + n ≤ 128)
    (hmask : mask.extractLsb' lo n = BitVec.allOnes n) : placed n lo v &&& mask = placed n lo v := by
  have hread : (placed n lo v).extractLsb' lo n = v := by
    simpa using Laws.EncodesItsRow.extract_placed 0 v hn (by simp)
  have hplace : placed n lo v &&& placed n lo (BitVec.allOnes n) = placed n lo v := by
    rw [and_placed_allOnes, hread]
  rw [← hplace, BitVec.and_assoc, BitVec.and_comm _ mask, and_placed_allOnes, hmask]

theorem or_placed_within {n : Nat} (lo : Nat) (k mask : CfgWord) (v : BitVec n) (hn : lo + n ≤ 128)
    (hk : k &&& mask = k) (hmask : mask.extractLsb' lo n = BitVec.allOnes n) :
    (k ||| placed n lo v) &&& mask = k ||| placed n lo v := by
  rw [BitVec.and_or_distrib_right, hk, placed_within mask v hn hmask]

/-- The word of an operation lies within its bits. -/
theorem encode_within_bits (i : Instr) : encode i &&& i.bits = encode i := by
  cases i
  case atLess r | atLequal r | atEqual r | atGequal r | atGreater r | atNotequal r =>
    exact or_placed_within 4 _ (bitsOf .alphaTest false) r (by decide) rfl rfl
  case afailRgbOnly m => exact or_placed_within 40 _ (bitsOf .alphaFail true) m (by decide) rfl rfl
  case datExpect0 m | datExpect1 m => exact or_placed_within 40 _ (bitsOf .dstTest true) m (by decide) rfl rfl
  case cFix x | cRsvd x => exact or_placed_within 29 _ (bitsOf .operandC false) x (by decide) rfl rfl
  case dthOn m => exact or_placed_within 64 _ (bitsOf .dither false) m (by decide) rfl rfl
  all_goals rfl

theorem extractLsb'_eq_of_and_eq {v w : CfgWord} (k : CfgWord) (h : v &&& k = w &&& k) (lo n : Nat)
    (hk : k.extractLsb' lo n = BitVec.allOnes n) : v.extractLsb' lo n = w.extractLsb' lo n := by
  have hfield := congrArg (BitVec.extractLsb' lo n) h
  rwa [BitVec.extractLsb'_and, BitVec.extractLsb'_and, hk, BitVec.and_allOnes, BitVec.and_allOnes]
    at hfield

theorem fbpsm_of_and_bitsOf {g : Group} {v w : CfgWord}
    (h : v &&& bitsOf g true = w &&& bitsOf g true) : operandFbpsm v = operandFbpsm w :=
  extractLsb'_eq_of_and_eq _ h 40 6 (by cases g <;> rfl)

theorem mask_within_bitsOf (g : Group) (hasFormat : Bool) :
    ∀ r ∈ rows g, bitsOf g hasFormat &&& r.mask = r.mask := by
  cases g <;> cases hasFormat <;> decide

/-- A row builds one operation from all words that agree on the bits of that operation. -/
theorem build_congr (g : Group) (v w : CfgWord) :
    ∀ r ∈ rows g, v &&& (r.build w).bits = w &&& (r.build w).bits → r.build v = r.build w := by
  cases g
  case alphaTest =>
    intro r hr h
    fin_cases hr <;>
      simp only [operandAref, extractLsb'_eq_of_and_eq (bitsOf .alphaTest false) h 4 8 rfl]
  case alphaFail =>
    simp only [rows, List.forall_mem_cons]
    exact ⟨fun _ => trivial, fun _ => trivial, fun _ => trivial,
      fun h => congrArg Instr.afailRgbOnly (fbpsm_of_and_bitsOf h), nofun⟩
  case dstTest =>
    simp only [rows, List.forall_mem_cons]
    exact ⟨fun _ => trivial, fun h => congrArg Instr.datExpect0 (fbpsm_of_and_bitsOf h),
      fun h => congrArg Instr.datExpect1 (fbpsm_of_and_bitsOf h), nofun⟩
  case operandC =>
    intro r hr h
    fin_cases hr <;>
      simp only [operandFix, extractLsb'_eq_of_and_eq (bitsOf .operandC false) h 29 8 rfl]
  case dither =>
    intro r hr h
    fin_cases hr <;>
      simp only [operandDimx, extractLsb'_eq_of_and_eq (bitsOf .dither false) h 64 64 rfl]
  all_goals
    intro r hr _
    fin_cases hr <;> rfl

/-- Words that agree on the bits of an operation select it together. -/
theorem decodeGroup_of_and_bits {g : Group} {i : Instr} {v w : CfgWord} (hi : decodeGroup g w = some i)
    (h : v &&& i.bits = w &&& i.bits) : decodeGroup g v = some i := by
  obtain ⟨r, hr, hw, rfl⟩ := decodeGroup_eq_iff.1 hi
  have hmask : (r.build w).bits &&& r.mask = r.mask := by
    rw [Instr.bits, build_group g w r hr]
    exact mask_within_bitsOf g _ r hr
  have hselects : r.selects v = r.selects w := by
    apply Row.selects_congr
    rw [← hmask, ← BitVec.and_assoc, ← BitVec.and_assoc, h]
  exact decodeGroup_eq_iff.2 ⟨r, hr, hselects.trans hw, build_congr g v w r hr h⟩

/-! ### Operations of different groups -/

theorem groupBits_disjoint {g h : Group} (hne : g ≠ h) : groupBits g &&& groupBits h = 0 := by
  have hall : ∀ g ∈ Group.all, ∀ h ∈ Group.all, g ≠ h → groupBits g &&& groupBits h = 0 := by decide
  exact hall g g.mem_all h h.mem_all hne

theorem groupBits_fbpsm (g : Group) : groupBits g &&& fbpsmBits = 0 := by
  cases g <;> rfl

/-- Operations of different groups use the same bits only where both have a format. -/
theorem bitsOf_disjoint {g h : Group} (hne : g ≠ h) (b c : Bool) :
    bitsOf g b &&& bitsOf h c = if b && c then fbpsmBits else 0#128 := by
  have hgh := groupBits_disjoint hne
  have hg := groupBits_fbpsm g
  have hh := (BitVec.and_comm _ _).trans (groupBits_fbpsm h)
  cases b <;> cases c <;> simp [bitsOf, BitVec.and_or_distrib_left, BitVec.and_or_distrib_right, *]

theorem and_fbpsmBits_congr {v w : CfgWord} (h : operandFbpsm v = operandFbpsm w) :
    v &&& fbpsmBits = w &&& fbpsmBits := by
  rw [fbpsmBits, and_placed_allOnes, and_placed_allOnes]
  exact congrArg (placed 6 40) h

/-- Where an operation meets another group's, it has what a word holds there, if the word holds its
format. -/
theorem encode_and_bits_within {i j : Instr} (hne : i.group ≠ j.group) {w : CfgWord}
    (hw : i.format?.isSome → j.format?.isSome → operandFbpsm (encode i) = operandFbpsm w) :
    encode i &&& j.bits &&& w = encode i &&& j.bits := by
  have hbits : encode i &&& j.bits =
      encode i &&& if i.format?.isSome && j.format?.isSome then fbpsmBits else 0#128 := by
    rw [← bitsOf_disjoint hne, ← BitVec.and_assoc]
    exact congrArg (· &&& j.bits) (encode_within_bits i).symm
  rw [hbits]
  split
  case isTrue h =>
    obtain ⟨hi, hj⟩ := Bool.and_eq_true_iff.1 h
    rw [and_fbpsmBits_congr (hw hi hj), BitVec.and_comm w, BitVec.and_assoc, BitVec.and_self]
  case isFalse => rw [BitVec.and_zero, BitVec.zero_and]

/-- A word whose bits inside a mask lie within another word lies within that word with every bit outside
the mask set. -/
theorem within_or_not_of_and_within {a b k : CfgWord} (h : a &&& k &&& b = a &&& k) :
    a &&& (b ||| ~~~k) = a := by
  ext n hn
  have hbit : (a[n] && k[n] && b[n]) = (a[n] && k[n]) := by
    simpa only [BitVec.getElem_and] using congrArg (·[n]) h
  simp only [BitVec.getElem_and, BitVec.getElem_or, BitVec.getElem_not]
  grind

/-- The operation's word with every bit set that the operation does not use. -/
def widest (i : Instr) : CfgWord := encode i ||| ~~~i.bits

theorem decodeGroup_widest (i : Instr) : decodeGroup i.group (widest i) = some i := by
  apply decodeGroup_of_and_bits (decodeOfEncodeIsTheOperation i)
  rw [widest, BitVec.and_or_distrib_right, BitVec.not_and_self]
  exact BitVec.or_zero

/-! ### A list of operations -/

/-- The word of a list selects an operation that it contains, if no operation of the list uses the
operation's bits otherwise. -/
theorem decodeGroup_encodeOps {ops : List Instr} {i : Instr} (hi : encode i &&& encodeOps ops = encode i)
    (hops : ∀ j ∈ ops, encode j &&& widest i = encode j) :
    decodeGroup i.group (encodeOps ops) = some i :=
  decodeGroup_of_between (decodeGroup_widest i) hi (encodeOps_within hops)

/-- The operations of a well-formed list agree on FBPSM. -/
theorem formats_eq {ops : List Instr} (h : formatsAgree ops = true) {i j : Instr} (hi : i ∈ ops)
    (hj : j ∈ ops) {f f' : BitVec 6} (hf : i.format? = some f) (hf' : j.format? = some f') : f = f' := by
  have hmem := List.mem_filterMap.2 ⟨i, hi, hf⟩
  have hmem' := List.mem_filterMap.2 ⟨j, hj, hf'⟩
  unfold formatsAgree at h
  split at h
  · next hnil => simp [hnil] at hmem
  · next k ks hcons =>
    rw [hcons, List.mem_cons] at hmem hmem'
    have hall : ∀ x, x = k ∨ x ∈ ks → x = k := by simpa using h
    rw [hall f hmem, hall f' hmem']

/-- No two operations of a well-formed list are of one group. -/
theorem group_ne {ops : List Instr} (h : distinctGroups ops = true) {i j : Instr} (hi : i ∈ ops)
    (hj : j ∈ ops) (hne : i ≠ j) : i.group ≠ j.group := fun hg =>
  hne (List.inj_on_of_nodup_map (of_decide_eq_true h) hi hj hg)

theorem encode_within_widest {i j : Instr} (hne : i.group ≠ j.group)
    (hf : i.format?.isSome → j.format?.isSome → operandFbpsm (encode i) = operandFbpsm (encode j)) :
    encode i &&& widest j = encode i :=
  within_or_not_of_and_within (encode_and_bits_within hne hf)

/-- The all-zero operation of a group: its word is zero and it has no format (30_encoding.md R118). -/
theorem decodeGroup_zero (g : Group) :
    ∃ i, decodeGroup g 0 = some i ∧ i.group = g ∧ encode i = 0 ∧ i.format? = none := by
  cases g <;> exact ⟨_, rfl, rfl, rfl, rfl⟩

/-- Settles O11: for an operation of the list, and for the all-zero operation of a group it does not name,
the word of the list lies between the operation's own word and the widest one that selects it. -/
theorem operationListMeansItsWord : Obligations.OperationListMeansItsWord := by
  intro ops hwf
  obtain ⟨hgroups, hformats⟩ := Bool.and_eq_true_iff.1 hwf
  refine ⟨fun i hi => decodeGroup_encodeOps (encode_within_encodeOps hi) fun j hj => ?named,
    fun g hg => ?unnamed⟩
  case named =>
    by_cases hji : j = i
    · rw [hji]
      exact and_or_self_left _ _
    · refine encode_within_widest (group_ne hgroups hj hi hji) fun hfj hfi => ?_
      obtain ⟨f, hf⟩ := Option.isSome_iff_exists.1 hfj
      obtain ⟨f', hf'⟩ := Option.isSome_iff_exists.1 hfi
      rw [← format_of_selected (decodeOfEncodeIsTheOperation j) hf,
        ← format_of_selected (decodeOfEncodeIsTheOperation i) hf', formats_eq hformats hj hi hf hf']
  case unnamed =>
    obtain ⟨i, hi, rfl, hzero, hnone⟩ := decodeGroup_zero g
    rw [hi]
    refine decodeGroup_encodeOps (by rw [hzero]; exact BitVec.zero_and) fun j hj => ?_
    exact encode_within_widest (hg j hj) fun _ hsome => by simp [hnone] at hsome

/-! ### One operation in a word's place -/

section patch
variable {e w g k : CfgWord}

/-! Putting `e` in the place `g` of `w`: what is seen through the place and bits `k` where `w` agrees with
`e`, and through bits `k` outside the place. -/

theorem patch_and_of_own (h : w &&& k = e &&& k) :
    (e ||| (w &&& ~~~g)) &&& (g ||| k) = e &&& (g ||| k) := by
  ext n hn
  have hbit : (w[n] && k[n]) = (e[n] && k[n]) := by simpa using congrArg (·[n]) h
  simp only [BitVec.getElem_and, BitVec.getElem_or, BitVec.getElem_not]
  grind

theorem patch_and_of_other (he : e &&& k &&& w = e &&& k) (hg : g &&& k = 0#128) :
    (e ||| (w &&& ~~~g)) &&& k = w &&& k := by
  ext n hn
  have hebit : (e[n] && k[n] && w[n]) = (e[n] && k[n]) := by
    simpa only [BitVec.getElem_and] using congrArg (·[n]) he
  have hgbit : (g[n] && k[n]) = false := by simpa using congrArg (·[n]) hg
  simp only [BitVec.getElem_and, BitVec.getElem_or, BitVec.getElem_not]
  grind

end patch

section patched
variable {i : Instr} {w : CfgWord}

/-- Where an operation has a format, its word has it in FBPSM. -/
theorem operandFbpsm_encode (hf : ∀ f, i.format? = some f → f = (unpackCfg w).fbpsm)
    (hsome : i.format?.isSome) : operandFbpsm (encode i) = operandFbpsm w := by
  obtain ⟨f, hi⟩ := Option.isSome_iff_exists.1 hsome
  rw [← format_of_selected (decodeOfEncodeIsTheOperation i) hi]
  exact hf f hi

theorem decodeGroup_patched_own (hf : ∀ f, i.format? = some f → f = (unpackCfg w).fbpsm) :
    decodeGroup i.group (patched i w) = some i := by
  apply decodeGroup_of_and_bits (decodeOfEncodeIsTheOperation i)
  apply patch_and_of_own
  split
  case isTrue hsome => exact (and_fbpsmBits_congr (operandFbpsm_encode hf hsome)).symm
  case isFalse => rw [BitVec.and_zero, BitVec.and_zero]

theorem decodeGroup_patched_other (hf : ∀ f, i.format? = some f → f = (unpackCfg w).fbpsm) {g : Group}
    (hne : i.group ≠ g) : decodeGroup g (patched i w) = decodeGroup g w := by
  obtain ⟨j, hj⟩ := exists_decodeGroup g w
  obtain rfl := decodeGroup_group hj
  have hdisjoint : groupBits i.group &&& j.bits = 0#128 := by
    have h := bitsOf_disjoint hne false j.format?.isSome
    rwa [bitsOf, if_neg Bool.false_ne_true, BitVec.or_zero] at h
  rw [hj]
  exact decodeGroup_of_and_bits hj (patch_and_of_other
    (encode_and_bits_within hne fun hsome _ => operandFbpsm_encode hf hsome) hdisjoint)

end patched

/-- An operation changes nothing in the place of another group: the entry it replaces is of its own. -/
theorem change_agreeOn_of_ne {i : Instr} {g : Group} (hne : i.group ≠ g) (c : Controls) :
    (i.change c).AgreeOn c g := by
  cases i <;> cases g <;> first | rfl | exact absurd rfl hne

theorem Machine.Controls.AgreeOn.trans {c d e : Controls} {g : Group} (h : c.AgreeOn d g)
    (h' : d.AgreeOn e g) : c.AgreeOn e g := by
  cases g <;> exact Eq.trans h h'

/-- What an operation puts in force is what its word in its place of `CFG` puts in force: in its own
place by the operation itself, in another group's by what the word still selects there. -/
theorem change_agreeOn_patched {i : Instr} {w : CfgWord}
    (hf : ∀ f, i.format? = some f → f = (unpackCfg w).fbpsm) (g : Group) :
    (i.change (.ofCfg w)).AgreeOn (.ofCfg (patched i w)) g := by
  by_cases hg : i.group = g
  · subst hg
    rw [← change_ofCfg (decodeGroup_patched_own hf)]
    exact change_agreeOn i _ _
  · exact (change_agreeOn_of_ne hg _).trans (ofCfg_agreeOn (decodeGroup_patched_other hf hg).symm)

/-- Settles O16: both are the clock edge, and a lane's step reads the operations in force through the
twelve groups. -/
theorem everyOperationIsItsWordInTheConfiguration :
    Obligations.EveryOperationIsItsWordInTheConfiguration := by
  intro i s hf
  have hlane : laneStep s.params (i.change (.ofCfg s.cfg)) = bareCore s.params (patched i s.cfg) := by
    funext p l
    exact laneStep_congr (change_agreeOn_patched hf) s.params p l
  rw [exec_eq_edgeUnder, edgeUnder_eq, hlane]

/-! ### Packed records (10_state.md R43, 30_encoding.md R92, R93) -/

/-- A flag of a word is the field one bit wide. -/
theorem ofBool_getLsbD {n : Nat} (w : BitVec n) (k : Nat) :
    BitVec.ofBool (w.getLsbD k) = w.extractLsb' k 1 := by
  ext i hi
  obtain rfl : i = 0 := by omega
  simp

/-- Fields that lie side by side, from bit 0 up to the width, are the whole word. -/
theorem packCfg_unpackCfg (w : CfgWord) : packCfg (unpackCfg w) = w := by
  simp only [packCfg, unpackCfg, ofBool_getLsbD]
  repeat rw [BitVec.extractLsb'_append_extractLsb'_eq_extractLsb']
  · exact BitVec.extractLsb'_eq_self
  all_goals rfl

/-- Settles O12: a field reads back from where it is packed, and the fields leave no bit out. -/
theorem cfgFieldsAndWordAgree : Obligations.CfgFieldsAndWordAgree :=
  ⟨unpackCfg_packCfg, packCfg_unpackCfg⟩

theorem unpackFrag8_packFrag8 (f : Frag8) : unpackFrag8 (packFrag8 f) = f := by
  simp only [unpackFrag8, packFrag8, BitVec.extractLsb'_append_eq_of_le,
    BitVec.extractLsb'_append_eq_right, BitVec.getLsbD_append, BitVec.getLsbD_ofBool, Nat.reduceLeDiff,
    Nat.reduceLT, Nat.reduceSub, le_refl, if_true, if_false, decide_true, Bool.true_and]

theorem packFrag8_unpackFrag8 (w : BitVec 99) : packFrag8 (unpackFrag8 w) = w := by
  simp only [packFrag8, unpackFrag8, ofBool_getLsbD]
  repeat rw [BitVec.extractLsb'_append_extractLsb'_eq_extractLsb']
  · exact BitVec.extractLsb'_eq_self
  all_goals rfl

theorem unpackFrag9_packFrag9 (f : Frag9) : unpackFrag9 (packFrag9 f) = f := by
  simp only [unpackFrag9, packFrag9, BitVec.extractLsb'_append_eq_of_le,
    BitVec.extractLsb'_append_eq_right, BitVec.getLsbD_append, BitVec.getLsbD_ofBool, Nat.reduceLeDiff,
    Nat.reduceLT, Nat.reduceSub, le_refl, if_true, if_false, decide_true, Bool.true_and]

theorem packFrag9_unpackFrag9 (w : BitVec 102) : packFrag9 (unpackFrag9 w) = w := by
  simp only [packFrag9, unpackFrag9, ofBool_getLsbD]
  repeat rw [BitVec.extractLsb'_append_extractLsb'_eq_extractLsb']
  · exact BitVec.extractLsb'_eq_self
  all_goals rfl

theorem unpackFb_packFb (s : FbSample) : unpackFb (packFb s) = s := by
  simp only [unpackFb, packFb, BitVec.extractLsb'_append_eq_of_le, BitVec.extractLsb'_append_eq_right,
    BitVec.extractLsb'_eq_self, Nat.reduceLeDiff, Nat.reduceSub, le_refl]

theorem packFb_unpackFb (w : BitVec 32) : packFb (unpackFb w) = w := by
  simp only [packFb, unpackFb]
  repeat rw [BitVec.extractLsb'_append_extractLsb'_eq_extractLsb']
  · exact BitVec.extractLsb'_eq_self
  all_goals rfl

/-- Settles O13: as for `CFG`, record by record. -/
theorem packedRecordsAgree : Obligations.PackedRecordsAgree :=
  ⟨unpackFrag8_packFrag8, packFrag8_unpackFrag8, unpackFrag9_packFrag9, packFrag9_unpackFrag9,
    unpackFb_packFb, packFb_unpackFb⟩

/-! ### Words written out in the spec (95_test_vectors.md section 2.8) -/

/-- Settles O14: the decoder runs on each of the four words. -/
theorem writtenWordsDecode : Obligations.WrittenWordsDecode :=
  ⟨by decide, by decide, by decide, by decide⟩

end Sys2Proof

/-! One clock edge (40_pipeline.md R133, 70_reset_and_hazards.md R270), and six of them with `rst` low
(40_pipeline.md R137). -/

namespace Sys2Proof.Machine

open Sys2Proof.Safety

/-! ### What an edge writes and what it keeps -/

/-- Settles O3: the edge with `rst` low advances each lane by the bare core, whose registers are the six
stage functions. -/
theorem stepWritesAllStageRegisters : Obligations.StepWritesAllStageRegisters := by
  intro s hrst
  refine ⟨_, step_of_run hrst, s.advance_length _, fun l lane hl => ?_, rfl, rfl, rfl⟩
  rw [State.advance_lane, hl]
  rfl

/-- The array after a reset edge. -/
theorem resetEdge_eq (s : State) :
    s.resetEdge = ⟨List.replicate s.lanes.length {}, 0, s.env.tail, s.params⟩ := by
  ext : 1
  · exact List.map_const'
  all_goals rfl

/-- Settles O4: step and operation are a clock edge, which with `rst` high is the reset edge whatever is
in force. -/
theorem resetEdgeClearsEverything : Obligations.ResetEdgeClearsEverything := by
  intro s hrst
  simp only [← resetEdge_eq]
  constructor
  · rw [step_eq_clockEdge, s.clockEdge_of_rst _ hrst]
  · intro i
    rw [exec_eq_edgeUnder, edgeUnder_eq, s.clockEdge_of_rst _ hrst]

/-- Settles O6: the bare core of the edge is that of the held configuration, and the load is the latch's
next value. -/
theorem loadReplacesTheConfigurationAfterTheStep :
    Obligations.LoadReplacesTheConfigurationAfterTheStep := by
  intro s hrst
  refine ⟨_, step_of_run hrst, fun l lane hl => ?_, fun hload => ?_, fun hload => ?_⟩
  · rw [State.advance_lane, hl, Option.map_some]
  · rw [State.advance_cfg, loadedCfg, if_pos hload]
  · rw [State.advance_cfg, loadedCfg, hload, if_neg Bool.false_ne_true]

theorem clockEdge_length (next : LanePorts → Lane → Lane) (s : State) :
    (s.clockEdge next).lanes.length = s.lanes.length := by
  rcases s.clockEdge_cases next with ⟨-, hedge⟩ | ⟨-, hedge⟩ <;> rw [hedge]
  · exact List.length_map ..
  · exact s.advance_length next

theorem clockEdge_params (next : LanePorts → Lane → Lane) (s : State) :
    (s.clockEdge next).params = s.params := by
  rcases s.clockEdge_cases next with ⟨-, hedge⟩ | ⟨-, hedge⟩ <;> rw [hedge] <;> rfl

/-- The state a step answers. -/
theorem eq_clockEdge_of_step {s t : State} (h : step s = .next t) :
    t = s.clockEdge (bareCore s.params s.cfg) :=
  (Host.Outcome.next.inj ((step_eq_clockEdge s).symm.trans h)).symm

/-- Settles O7: both kinds of edge map the list of lanes and use one record of the script. -/
theorem everyEdgeKeepsTheLanes : Obligations.EveryEdgeKeepsTheLanes := by
  intro s t h
  rw [eq_clockEdge_of_step h]
  exact ⟨clockEdge_length _ s, s.clockEdge_env _, clockEdge_params _ s⟩

/-! ### The fetched word (30_encoding.md section 6) -/

/-- A string of bits that is read as an operation is a configuration word, and its operation is the one
that word is read as. -/
theorem decodeTableWord_eq_some {n w : Nat} {i : Instr} (h : decodeTableWord n w = some i) :
    w < 2 ^ n ∧ namedOperation n (BitVec.ofNat 128 w) = some i := by
  unfold decodeTableWord configWord at h
  split_ifs at h with hlong hbig
  exact ⟨Nat.lt_of_not_le hbig, h⟩

/-- Settles O8: the word fits in the bits given, so it is put into `CFG` whole, and the step runs every
operation that `CFG` selects. -/
theorem fetchedWordIsRunByTheNextStep : Obligations.FetchedWordIsRunByTheNextStep := by
  intro s n w i h
  obtain ⟨hfits, hnamed⟩ := decodeTableWord_eq_some h
  have hcfg : (s.withFetchWord n w).cfg = BitVec.ofNat 128 w :=
    congrArg (BitVec.ofNat 128) (Nat.mod_eq_of_lt hfits)
  have hmem : i ∈ decodeOps (s.withFetchWord n w).cfg := hcfg ▸ namedOperation_mem hnamed
  exact ⟨hcfg, State.withWord_rst _ s, rfl, hmem, stepRunsEverySelectedOperation _ i hmem⟩

/-! ### Six steps: a pass (40_pipeline.md section 3) -/

/-- A step that keeps the configuration leaves it, load or no load. -/
theorem loadedCfg_of_keepsCfg {p : Ports} {cfg : CfgWord} (h : keepsCfg cfg p = true) :
    loadedCfg p cfg = cfg := by
  unfold loadedCfg
  split
  case isTrue hload => simpa [keepsCfg, hload] using h
  case isFalse => rfl

/-- Settles O39: the run takes the lane through the six stages, each under the configuration of its step;
where no step changes that, the composition is the pass. -/
theorem sixStepsComputeThePass : Obligations.SixStepsComputeThePass := by
  intro s p0 p1 p2 p3 p4 p5 rest l henv hrst hl c0 c1 c2 c3 c4 c5
  obtain ⟨t, hrun, htenv, hout⟩ := run_script_fragOut henv hrst hl
  rw [laneAfter_six_s6] at hout
  refine ⟨t, hrun, htenv, hout, fun hkeeps => ?_⟩
  simp only [List.forall_mem_cons] at hkeeps
  obtain ⟨h0, h1, h2, h3, h4, -⟩ := hkeeps
  simp only [loadedCfg_of_keepsCfg h0, loadedCfg_of_keepsCfg h1, loadedCfg_of_keepsCfg h2,
    loadedCfg_of_keepsCfg h3, loadedCfg_of_keepsCfg h4] at hout
  exact hout

/-! ### The duty of configuration stability (70_reset_and_hazards.md R278) -/

/-- A lane of a step that presents only bubbles is presented one, listed or not. -/
theorem bubble_lane {p : Ports} (h : bubblesIn p = true) (l : Nat) : bubble (p.lane l).fragIn = true := by
  rw [Ports.lane, List.getD_eq_getElem?_getD]
  cases hl : p.lanes[l]? with
  | none => rfl
  | some q => exact List.all_eq_true.1 h q (List.mem_of_getElem? hl)

theorem loadDuty_rst {n : Nat} {cfg : CfgWord} {ps : List Ports} (h : loadDuty n cfg ps = true) :
    ∀ p ∈ ps, p.rst = false := by
  induction ps generalizing n cfg with
  | nil => nofun
  | cons p ps ih =>
    simp only [loadDuty, Bool.and_eq_true, Bool.not_eq_true'] at h
    obtain ⟨⟨hrst, -⟩, hps⟩ := h
    exact List.forall_mem_cons.2 ⟨hrst, ih hps⟩

/-- While less than five steps have gone by since a live fragment was presented, the duty keeps the
configuration. -/
theorem loadDuty_keepsCfg {n : Nat} {cfg : CfgWord} {ps rest : List Ports}
    (h : loadDuty n cfg (ps ++ rest) = true) (hn : n + ps.length < 5) :
    ∀ p ∈ ps, keepsCfg cfg p = true := by
  induction ps generalizing n with
  | nil => nofun
  | cons p ps ih =>
    simp only [List.cons_append, loadDuty, Bool.and_eq_true, Bool.or_eq_true, decide_eq_true_eq] at h
    rw [List.length_cons] at hn
    obtain ⟨⟨-, hkeeps⟩, hps⟩ := h
    have hsince : (if bubblesIn p then n + 1 else 0) ≤ n + 1 := by split <;> omega
    have hp : keepsCfg cfg p = true := hkeeps.resolve_right (by omega)
    rw [loadedCfg_of_keepsCfg hp] at hps
    exact List.forall_mem_cons.2 ⟨hp, ih hps (by omega)⟩

/-- Settles O40: a live fragment sets the count back to 0, so the duty keeps the configuration in its step
and the four after it, and with a constant configuration six steps compute the pass. -/
theorem loadDutyGivesThePass : Obligations.LoadDutyGivesThePass := by
  intro s since p0 p1 p2 p3 p4 p5 rest l henv hl hduty hlive
  have hlivestep : bubblesIn p0 = false := by
    refine Bool.eq_false_iff.2 fun hbubbles => ?_
    simp [live, bubble_lane hbubbles l] at hlive
  have hrst := loadDuty_rst hduty
  rw [henv] at hrst hduty
  obtain ⟨t, hrun, -, -, hpass⟩ := sixStepsComputeThePass s p0 p1 p2 p3 p4 p5 rest l henv
    (fun p hp => hrst p (List.mem_append_left rest hp)) hl
  rw [loadDuty, hlivestep] at hduty
  simp only [Bool.false_eq_true, if_false, Bool.and_eq_true, Bool.or_eq_true, decide_eq_true_eq] at hduty
  obtain ⟨⟨-, hkeeps⟩, hrest⟩ := hduty
  have h0 : keepsCfg s.cfg p0 = true := hkeeps.resolve_right (by omega)
  rw [loadedCfg_of_keepsCfg h0] at hrest
  exact ⟨t, hrun, hpass (List.forall_mem_cons.2
    ⟨h0, loadDuty_keepsCfg (ps := [p1, p2, p3, p4]) hrest (by simp)⟩)⟩

end Sys2Proof.Machine

/-! Bubbles move one register down in every step (40_pipeline.md R141), so a drained machine stays
drained and six steps drain one (70_reset_and_hazards.md R276, 10_state.md section 4). -/

namespace Sys2Proof.Machine

open Sys2Proof.Safety

/-! ### Bubbles of a lane, register by register -/

/-- Stage register S(n + 1) of the lane holds a bubble; past S6 there is none that could not. -/
def Lane.bubbleAt (l : Lane) : Nat → Bool
  | 0 => bubble l.s1
  | 1 => bubble l.s2
  | 2 => bubble l.s3
  | 3 => bubble l.s4
  | 4 => bubble l.s5
  | 5 => bubble l.s6
  | _ => true

theorem laneDrained_iff (l : Lane) : laneDrained l = true ↔ ∀ n, l.bubbleAt n = true := by
  simp only [laneDrained, Bool.and_eq_true]
  constructor
  · rintro ⟨⟨⟨⟨⟨h1, h2⟩, h3⟩, h4⟩, h5⟩, h6⟩
    exact fun
      | 0 => h1
      | 1 => h2
      | 2 => h3
      | 3 => h4
      | 4 => h5
      | 5 => h6
      | _ + 6 => rfl
  · exact fun h => ⟨⟨⟨⟨⟨h 0, h 1⟩, h 2⟩, h 3⟩, h 4⟩, h 5⟩

theorem Lane.zero_bubbleAt (n : Nat) : Lane.zero.bubbleAt n = true :=
  (laneDrained_iff Lane.zero).1 rfl n

section lane
variable (prm : Params) (cfg : CfgWord) {p : LanePorts} {l : Lane}

theorem bareCore_bubbleAt_zero (h : bubble p.fragIn = true) :
    (bareCore prm cfg p l).bubbleAt 0 = true := by
  obtain ⟨h1, -⟩ := bubblesStayBubbles prm cfg p l
  exact h1 h

theorem bareCore_bubbleAt_succ {n : Nat} (h : l.bubbleAt n = true) :
    (bareCore prm cfg p l).bubbleAt (n + 1) = true := by
  obtain ⟨-, h2, h3, h4, h5, h6⟩ := bubblesStayBubbles prm cfg p l
  match n with
  | 0 => exact h2 h
  | 1 => exact h3 h
  | 2 => exact h4 h
  | 3 => exact h5 h
  | 4 => exact h6 h
  | _ + 5 => rfl

end lane

/-! ### Bubbles of the array -/

/-- Stage register S(n + 1) of every lane holds a bubble. -/
def State.BubbleAt (s : State) (n : Nat) : Prop := ∀ l ∈ s.lanes, l.bubbleAt n = true

theorem drained_iff (s : State) : drained s = true ↔ ∀ n, s.BubbleAt n := by
  simp only [drained, List.all_eq_true, laneDrained_iff, State.BubbleAt]
  exact ⟨fun h n l hl => h l hl n, fun h l hl n => h n l hl⟩

theorem State.BubbleAt.fragOut {s : State} (h : s.BubbleAt 5) {l : Nat} {f : Frag8}
    (hf : s.fragOut l = some f) : bubble f = true := by
  obtain ⟨lane, hlane, rfl⟩ := Option.map_eq_some_iff.1 hf
  exact h lane (List.mem_of_getElem? hlane)

section edge
variable (s : State) (prm : Params) (cfg : CfgWord)

/-- What every lane of the next state satisfies, by the two kinds of edge. -/
theorem clockEdge_lanes {next : LanePorts → Lane → Lane} {P : Lane → Prop} (hzero : P Lane.zero)
    (hnext : ∀ l, ∀ lane ∈ s.lanes, P (next (s.ports.lane l) lane)) :
    ∀ lane ∈ (s.clockEdge next).lanes, P lane := by
  rcases s.clockEdge_cases next with ⟨-, hedge⟩ | ⟨-, hedge⟩
  · rw [hedge, State.resetEdge_lanes, List.forall_mem_map]
    exact fun _ _ => hzero
  · rw [hedge, State.advance_lanes]
    intro lane hlane
    obtain ⟨l, hl, rfl⟩ := List.mem_mapIdx.1 hlane
    exact hnext l _ (List.getElem_mem hl)

theorem clockEdge_bubbleAt_zero (h : bubblesIn s.ports = true) :
    (s.clockEdge (bareCore prm cfg)).BubbleAt 0 :=
  clockEdge_lanes s (Lane.zero_bubbleAt 0) fun l _ _ => bareCore_bubbleAt_zero prm cfg (bubble_lane h l)

theorem clockEdge_bubbleAt_succ {n : Nat} (h : s.BubbleAt n) :
    (s.clockEdge (bareCore prm cfg)).BubbleAt (n + 1) :=
  clockEdge_lanes s (Lane.zero_bubbleAt (n + 1)) fun _ lane hl =>
    bareCore_bubbleAt_succ prm cfg (h lane hl)

/-- A drained machine that is presented bubbles is drained after the edge, whatever it loads. -/
theorem clockEdge_drained (hs : drained s = true) (hp : bubblesIn s.ports = true) :
    drained (s.clockEdge (bareCore prm cfg)) = true := by
  rw [drained_iff] at hs ⊢
  exact fun
    | 0 => clockEdge_bubbleAt_zero s prm cfg hp
    | n + 1 => clockEdge_bubbleAt_succ s prm cfg (hs n)

end edge

theorem quiet_iff (s : State) :
    quiet s = true ↔ bubblesIn s.ports = true ∧ ∀ p ∈ s.env.tail, bubblesIn p = true := by
  rw [quiet, List.all_eq_true, State.ports]
  cases s.env with
  | nil => exact ⟨fun _ => ⟨rfl, nofun⟩, fun _ => nofun⟩
  | cons p ps => exact List.forall_mem_cons

theorem clockEdge_quiet {s : State} (h : quiet s = true) (next : LanePorts → Lane → Lane) :
    quiet (s.clockEdge next) = true := by
  obtain ⟨-, htail⟩ := (quiet_iff s).1 h
  rw [quiet, s.clockEdge_env next]
  exact List.all_eq_true.2 htail

/-- Settles O48: S1 takes a bubble from the ports, and each other register one from the register before
it. -/
theorem drainedStatePersists : Obligations.DrainedStatePersists := by
  intro s t hs hq h
  obtain ⟨hports, -⟩ := (quiet_iff s).1 hq
  rw [eq_clockEdge_of_step h]
  exact ⟨clockEdge_drained s _ _ hs hports, clockEdge_quiet hq _⟩

/-- Settles O49: every register of a lane after reset is the zero record, and an empty script presents
nothing else. -/
theorem resetStateIsDrained : Obligations.ResetStateIsDrained := by
  intro prm n
  refine ⟨(drained_iff _).2 fun m l hl => ?_, rfl⟩
  rw [List.eq_of_mem_replicate hl]
  exact Lane.zero_bubbleAt m

/-! ### Runs -/

/-- A run completes: no step faults or is refused (60_exceptions.md R250). -/
theorem exists_run (k : Nat) (s : State) : ∃ t, Host.Core.run core k s = .next t := by
  induction k generalizing s with
  | zero => exact ⟨s, rfl⟩
  | succ k ih =>
    rw [run_succ_of_step (step_eq_clockEdge s)]
    exact ih _

/-- In `k` steps a bubble moves `k` registers down, whatever is presented, loaded or reset. -/
theorem run_bubbleAt {k n : Nat} {s t : State} (hrun : Host.Core.run core k s = .next t)
    (h : s.BubbleAt n) : t.BubbleAt (n + k) := by
  induction k generalizing s n with
  | zero => exact Host.Outcome.next.inj hrun ▸ h
  | succ k ih =>
    rw [run_succ_of_step (step_eq_clockEdge s)] at hrun
    rw [← Nat.succ_add_eq_add_succ]
    exact ih hrun (clockEdge_bubbleAt_succ s _ _ h)

/-- In `k` steps of bubbles the first `k` registers are filled with bubbles. -/
theorem run_bubbleAt_of_quiet {k n : Nat} {s t : State} (hrun : Host.Core.run core k s = .next t)
    (hq : quiet s = true) (hn : n < k) : t.BubbleAt n := by
  induction k generalizing s with
  | zero => exact absurd hn n.not_lt_zero
  | succ k ih =>
    rw [run_succ_of_step (step_eq_clockEdge s)] at hrun
    obtain hlt | rfl := Nat.lt_succ_iff_lt_or_eq.1 hn
    · exact ih hrun (clockEdge_quiet hq _) hlt
    · obtain ⟨hports, -⟩ := (quiet_iff s).1 hq
      simpa using run_bubbleAt hrun (clockEdge_bubbleAt_zero s _ _ hports)

/-- Settles O50: six steps of bubbles fill all six registers. -/
theorem sixBubblesDrainTheMachine : Obligations.SixBubblesDrainTheMachine := by
  intro s hq
  obtain ⟨t, hrun⟩ := exists_run 6 s
  have hfilled (n : Nat) (hn : n < 6) : t.BubbleAt n := run_bubbleAt_of_quiet hrun hq hn
  refine ⟨t, hrun, (drained_iff t).2 fun n => ?_, fun l f => (hfilled 5 (by decide)).fragOut⟩
  match n with
  | 0 | 1 | 2 | 3 | 4 | 5 => exact hfilled _ (by decide)
  | _ + 6 => exact fun _ _ => rfl

/-- Settles O59: the step leaves the machine drained, so the bubble that S6 shows up to five steps later
was in a register above it then. -/
theorem drainedLoadDisturbsNoResult : Obligations.DrainedLoadDisturbsNoResult := by
  intro s k hs hp hk
  obtain ⟨t, hrun⟩ := exists_run k s
  refine ⟨t, hrun, fun l f => State.BubbleAt.fragOut ?_⟩
  cases k with
  | zero => exact Host.Outcome.next.inj hrun ▸ (drained_iff s).1 hs 5
  | succ k =>
    have hnext := clockEdge_drained s s.params s.cfg hs hp
    rw [run_succ_of_step (step_eq_clockEdge s)] at hrun
    rw [show 5 = 5 - k + k by omega]
    exact run_bubbleAt hrun ((drained_iff _).1 hnext (5 - k))

end Sys2Proof.Machine

/-! Stage 1 as a function of the configuration word (41_alpha_test.md section 4), the flags of a pass
(40_pipeline.md R139), and the pass after reset. -/

namespace Sys2Proof.Machine

open Sys2Proof.Safety

/-! ### The stage function of a configuration word -/

/-- The result of an enabled test is the one that stands at ATST in the list of the eight. -/
theorem alphaResultOf_of_on {f : CfgFields} (h : f.ate = true) (a : U8) :
    alphaResultOf f a =
      [false, true, decide (a.toNat < f.aref.toNat), decide (a.toNat ≤ f.aref.toNat),
       decide (a.toNat = f.aref.toNat), decide (f.aref.toNat ≤ a.toNat),
       decide (f.aref.toNat < a.toNat), decide (a.toNat ≠ f.aref.toNat)].getD f.atst.toNat false := by
  have hlt : f.atst.toNat < 8 := f.atst.isLt
  rw [alphaResultOf, if_pos h, ← alphaEqual_eq_decide, ← alphaNotequal_eq_decide]
  interval_cases f.atst.toNat <;> rfl

/-- `ta` of R165, from the number the configuration word stands for. -/
theorem alphaResultOf_unpackCfg (cfg : CfgWord) (a : U8) :
    alphaResultOf (unpackCfg cfg) a =
      if cfg.toNat % 2 = 0 then true else
        [false, true, decide (a.toNat < cfg.toNat / 2 ^ 4 % 256),
         decide (a.toNat ≤ cfg.toNat / 2 ^ 4 % 256), decide (a.toNat = cfg.toNat / 2 ^ 4 % 256),
         decide (cfg.toNat / 2 ^ 4 % 256 ≤ a.toNat), decide (cfg.toNat / 2 ^ 4 % 256 < a.toNat),
         decide (a.toNat ≠ cfg.toNat / 2 ^ 4 % 256)].getD (cfg.toNat / 2 % 8) false := by
  have hate : (unpackCfg cfg).ate.toNat = cfg.toNat % 2 :=
    (Nat.toNat_testBit cfg.toNat 0).trans (by rw [pow_zero, Nat.div_one])
  have hatst : (unpackCfg cfg).atst.toNat = cfg.toNat / 2 % 8 := extractLsb'_toNat_div_mod cfg 1 3
  have haref : (unpackCfg cfg).aref.toNat = cfg.toNat / 2 ^ 4 % 256 := extractLsb'_toNat_div_mod cfg 4 8
  rw [← hate, ← hatst, ← haref]
  cases hon : (unpackCfg cfg).ate with
  | false => rw [alphaResultOf_of_off hon, Bool.toNat_false, if_pos rfl, alphaOff]
  | true => rw [alphaResultOf_of_on hon, Bool.toNat_true, if_neg one_ne_zero]

/-- `(mc, ma, mz)` of R165, by the fields AFAIL and FBPSM. -/
theorem gatesOf_eq_getD (f : CfgFields) :
    ((gatesOf f).mc, (gatesOf f).ma, (gatesOf f).mz) =
      [(true, true, true), (false, false, true), (true, true, false),
       if decide (f.fbpsm.toNat = 0) then (false, true, true) else (false, false, true)].getD
        f.afail.toNat (true, true, true) := by
  have hlt : f.afail.toNat < 4 := f.afail.isLt
  have hformat : isRgba32 f.fbpsm = decide (f.fbpsm.toNat = 0) :=
    (beq_eq_decide f.fbpsm 0).trans (decide_eq_decide.2 BitVec.toNat_inj.symm)
  rw [gatesOf, gatesRgbOnly, hformat]
  interval_cases f.afail.toNat
  · rfl
  · rfl
  · rfl
  · cases decide (f.fbpsm.toNat = 0) <;> rfl

/-- Settles O33: the stage ANDs the result that ATE, ATST and AREF put in force into the flags that AFAIL
and FBPSM select. -/
theorem alphaTestFunction : Obligations.AlphaTestFunction := by
  intro cfg f
  have hafail : (unpackCfg cfg).afail.toNat = cfg.toNat / 2 ^ 12 % 4 := extractLsb'_toNat_div_mod cfg 12 2
  have hfbpsm : (unpackCfg cfg).fbpsm.toNat = cfg.toNat / 2 ^ 40 % 64 :=
    extractLsb'_toNat_div_mod cfg 40 6
  simp only [← alphaResultOf_unpackCfg, ← hafail, ← hfbpsm, ← gatesOf_eq_getD]
  rfl

/-! ### The flags of a pass (40_pipeline.md section 4) -/

/-- The gates as a choice by AFAIL. -/
theorem gatesOf_eq_ite (f : CfgFields) :
    ((gatesOf f).mc, (gatesOf f).ma, (gatesOf f).mz) =
      if f.afail = 0 then (true, true, true) else if f.afail = 1 then (false, false, true)
      else if f.afail = 2 then (true, true, false)
      else if f.fbpsm = 0 then (false, true, true) else (false, false, true) := by
  have hlt : f.afail.toNat < 4 := f.afail.isLt
  simp only [gatesOf_eq_getD, ← BitVec.toNat_inj, decide_eq_true_eq]
  interval_cases f.afail.toNat <;> rfl

/-- Settles O42: the tests gate the flags one after the other, each on the alpha and the depth that were
presented, and the later stages copy them. -/
theorem finalTripleIsTheConjunction : Obligations.FinalTripleIsTheConjunction := by
  intro prm cfg f zr fb
  simp only [← gatesOf_eq_ite]
  exact ⟨rfl, rfl, rfl⟩

/-! ### After reset (10_state.md section 7) -/

/-- Settles O5: the lanes are copies of the zero lane, and under CFG = 0 every unit is off but for the
correction of alpha, which puts in a 0. -/
theorem resetStateAndResetPass : Obligations.ResetStateAndResetPass := by
  refine ⟨fun prm n => ⟨rfl, List.length_replicate, rfl, fun lane hlane => ?lanes⟩, rfl,
    fun prm f zr fb => ?pass⟩
  case lanes =>
    obtain rfl : lane = Lane.zero := List.eq_of_mem_replicate hlane
    exact ⟨rfl, rfl, rfl, rfl, rfl, rfl⟩
  case pass =>
    have hfields : unpackCfg 0 = {} := by decide
    rw [← replaceAlphaMsb_false]
    exact pipe_of_units_off prm hfields zr fb rfl rfl rfl rfl rfl rfl

end Sys2Proof.Machine

/-! The arithmetic of AlphaBlend, Clamp and Dither (44_alpha_blend.md sections 4 and 5,
93_implementation_defined.md U1 and U2, 45_dither.md sections 2 and 4). -/

namespace Sys2Proof.Machine

open Sys2Proof.Safety

/-! ### The blend equation and its ranges (44_alpha_blend.md R210, R211) -/

/-- The product of a difference of two 8-bit values with an 8-bit value. -/
theorem mul_range {diff c : Int} (hlo : -255 ≤ diff) (hhi : diff ≤ 255) (hc : 0 ≤ c) (hc' : c ≤ 255) :
    -65025 ≤ diff * c ∧ diff * c ≤ 65025 := by
  constructor <;> nlinarith

/-- Settles O52: the shift is the floor division, and the ranges follow one from the other. -/
theorem blendEquationAndItsRanges : Obligations.BlendEquationAndItsRanges := by
  intro a b c d diff prod shft sum
  have ha := a.isLt
  have hb := b.isLt
  have hc := c.isLt
  have hd := d.isLt
  have hdiff : -255 ≤ diff ∧ diff ≤ 255 := by omega
  obtain ⟨hlo, hhi⟩ := hdiff
  obtain ⟨hprodlo, hprodhi⟩ : -65025 ≤ prod ∧ prod ≤ 65025 :=
    mul_range hlo hhi (Int.natCast_nonneg _) (by omega)
  have hshft : shft = prod / 128 := Int.fdiv_eq_ediv_of_nonneg _ (by decide)
  have hsum : sum = shft + d.toNat := rfl
  refine ⟨blend_eq_equation _ _ _ _, hlo, hhi, hprodlo, hprodhi, ?_, ?_, ?_, ?_⟩ <;> omega

/-! ### Identities (44_alpha_blend.md R217) -/

/-- A sum that is an 8-bit value is copied. -/
theorem blend_eq_setWidth {a b c : Int} {d : U8} (h : blendSum a b c (zext d) = zext d) :
    blend a b c (zext d) = d.setWidth 9 := by
  rw [blend, h, ← widen_eq_setWidth, widen]

/-- With a factor up to 1 (128 of 128ths) the equation interpolates. -/
theorem blendSum_between {s d c : Int} (hc : 0 ≤ c) (hc' : c ≤ 128) :
    min s d ≤ blendSum s d c d ∧ blendSum s d c d ≤ max s d := by
  rw [blendSum_eq]
  obtain h | h := le_total s d
  · have hlo : (s - d) * 128 ≤ (s - d) * c := by nlinarith
    have hhi : (s - d) * c ≤ 0 := by nlinarith
    omega
  · have hlo : 0 ≤ (s - d) * c := by nlinarith
    have hhi : (s - d) * c ≤ (s - d) * 128 := by nlinarith
    omega

/-- Settles O53: each identity is one of the sum before its reduction. -/
theorem blendIdentities : Obligations.BlendIdentities := by
  refine ⟨fun a c d => ?equal, fun a b d => ?zero, fun a b d => ?one, fun a c => ?product,
    fun s d as has => ?between, by decide, by decide, by decide, by decide, fun a b c => ?sign⟩
  case equal => exact blend_eq_setWidth (by rw [blendSum_eq, Int.sub_self, Int.zero_mul]; simp)
  case zero => exact blend_eq_setWidth (by rw [blendSum_eq, Int.mul_zero]; simp)
  case one =>
    rw [blend, blendSum_eq, Int.mul_ediv_cancel _ (by decide)]
    rfl
  case product =>
    have ha := a.isLt
    have hc := c.isLt
    have hprod : a.toNat * c.toNat ≤ 255 * 255 := Nat.mul_le_mul (by omega) (by omega)
    have hsum : blendSum (zext a) 0 (zext c) 0 = ((a.toNat * c.toNat / 128 : Nat) : Int) := by
      rw [blendSum_eq, Int.sub_zero, Int.add_zero]
      rfl
    have htrunc := trunc9_toNat ((a.toNat * c.toNat / 128 : Nat) : Int)
    rw [blend, hsum]
    omega
  case between => exact blendSum_between (zext_nonneg as) (Int.ofNat_le.2 has)
  case sign =>
    have hc : 0 ≤ zext c := zext_nonneg c
    rw [mul_neg_iff]
    simp only [zext] at *
    omega

/-! ### The 9-bit reduction and its readings (44_alpha_blend.md R213, 93_implementation_defined.md) -/

/-- Settles O54: the sums span less than three times 512, so the remainder is one of three shifts. -/
theorem nineBitReductionWraps : Obligations.NineBitReductionWraps := by
  intro sum hlo hhi
  rw [trunc9_toNat]
  split_ifs <;> omega

/-- The reading that is not adopted, in numbers. -/
theorem altClamp_toNat (sum : Int) :
    ((altClamp sum).toNat : Int) = if sum < 0 then 0 else if 255 < sum then 255 else sum := by
  unfold altClamp
  split_ifs with hneg hover
  · rfl
  · rfl
  · rw [trunc, BitVec.toNat_ofInt]
    omega

/-- Settles O55: a wrapped negative sum saturates to 3 or more where the other reading gives 0, a wrapped
sum above 511 is at most 251 where it gives 255, and between the two do the same. -/
theorem readingsDifferOutsideNineBits : Obligations.ReadingsDifferOutsideNineBits := by
  intro sum hlo hhi
  have hwrap := nineBitReductionWraps sum hlo hhi
  have halt := altClamp_toNat sum
  have hsat := clampSaturate_toNat (trunc9 sum)
  rw [← BitVec.toNat_inj]
  split_ifs at hwrap halt hsat <;> omega

/-! ### Dither (45_dither.md R222, R225, R228) -/

theorem ditherOffset_range (lsb : Nat) (m : BitVec 64) (x y : Coord) :
    -4 ≤ ditherOffset lsb m x y ∧ ditherOffset lsb m x y ≤ 3 := by
  have hlt := (ditherCell m (ditherIndex lsb y) (ditherIndex lsb x)).isLt
  rw [ditherOffset, sext_cell]
  split <;> omega

/-- The offset is read by the two index bits of each coordinate. -/
theorem ditherOffset_congr {lsb : Nat} {x y x' y' : Coord} (m : BitVec 64)
    (hx : x.toNat / 2 ^ lsb % 4 = x'.toNat / 2 ^ lsb % 4)
    (hy : y.toNat / 2 ^ lsb % 4 = y'.toNat / 2 ^ lsb % 4) :
    ditherOffset lsb m x y = ditherOffset lsb m x' y' := by
  have hindex {v v' : Coord} (h : v.toNat / 2 ^ lsb % 4 = v'.toNat / 2 ^ lsb % 4) :
      ditherIndex lsb v = ditherIndex lsb v' := by
    rwa [← BitVec.toNat_inj, ditherIndex_toNat, ditherIndex_toNat]
  rw [ditherOffset, ditherOffset, hindex hx, hindex hy]

theorem ditherOffset_zero (lsb : Nat) (x y : Coord) : ditherOffset lsb 0 x y = 0 := by
  simp [ditherOffset, ditherCell, sext]

/-- Settles O57: the sum is reduced modulo 512, and the offset is a cell of the matrix. -/
theorem ditherSumAndPosition : Obligations.DitherSumAndPosition := by
  refine ⟨fun off c _ _ => trunc9_toNat _, fun lsb m x y x' y' hx hy => ditherOffset_congr m hx hy,
    ditherOffset_range, fun lsb x y c => ?_⟩
  have hc := c.isLt
  rw [ditherAdd, ditherOffset_zero, dith, ← BitVec.toNat_inj, ← Int.natCast_inj, trunc9_toNat, zext]
  omega

end Sys2Proof.Machine

/-! The operand selectors of AlphaBlend (30_encoding.md section 3), the value 3 of their fields among
them (30_encoding.md R108, R109; decision D9). -/

namespace Sys2Proof.Machine

open Sys2Proof.Safety

/-- Settles O29: the row of the value 3 puts in force what the row of the value 2 does. -/
theorem reservedSelectorsActAsTheLastCase : Obligations.ReservedSelectorsActAsTheLastCase := by
  refine ⟨fun w => ?selectA, fun w => ?selectB, fun w x => ?selectC, fun w => ?selectD, fun x s hrst =>
    ⟨?execA, ?execB, ?execC, ?execD, rfl, rfl, rfl, rfl⟩⟩
  case selectA | selectB | selectC | selectD => simp [decodeGroup_eq_some_iff, rows, operandFix]
  case execA | execB | execC | execD => exact exec_of_changesBlendOnly hrst fun _ => rfl

/-! ### Members by their number (30_encoding.md R98, R99) -/

theorem decodeRgbSel_eq_ite : ∀ v : BitVec 2,
    decodeRgbSel v = if v = 0 then .source else if v = 1 then .framebuffer else .zero := by decide

theorem decodeAlphaSel_eq_ite : ∀ v : BitVec 2, decodeAlphaSel v =
    if v = 0 then .sourceAlpha else if v = 1 then .framebufferAlpha else .fixed := by decide

/-! ### The member in force is the one the selected operation names -/

/-- What holds for each row of a group, of what its operation puts in force and of the operation, holds
of what the word puts in force and the operation it selects. -/
theorem ofCfg_decodeGroup_of_rows (P : Controls → Option Instr → Prop) {g : Group} {w : CfgWord}
    (h : ∀ r ∈ rows g, P ((r.build w).change (.ofCfg w)) (some (r.build w))) :
    P (.ofCfg w) (decodeGroup g w) := by
  obtain ⟨i, hi⟩ := exists_decodeGroup g w
  obtain ⟨r, hr, -, rfl⟩ := decodeGroup_eq_iff.1 hi
  simpa only [hi, change_ofCfg hi] using h r hr

/-- The member `sel` of `RgbSel` is the one that the operation `i` of a group names, the group's
operations given in the order of their field's values. -/
def NamedBy (sel : RgbSel) (i : Option Instr) (src fb zero rsvd : Instr) : Prop :=
  (sel = .source ↔ i = some src) ∧ (sel = .framebuffer ↔ i = some fb) ∧
  (sel = .zero ↔ i = some zero ∨ i = some rsvd)

section selected
variable (w : CfgWord)

theorem operandA_namedBy :
    NamedBy (Controls.ofCfg w).operandA (decodeGroup .operandA w) .aSrc .aFb .aZero .aRsvd :=
  ofCfg_decodeGroup_of_rows (fun c i => NamedBy c.operandA i .aSrc .aFb .aZero .aRsvd)
    (by simp [NamedBy, rows, Instr.change])

theorem operandB_namedBy :
    NamedBy (Controls.ofCfg w).operandB (decodeGroup .operandB w) .bSrc .bFb .bZero .bRsvd :=
  ofCfg_decodeGroup_of_rows (fun c i => NamedBy c.operandB i .bSrc .bFb .bZero .bRsvd)
    (by simp [NamedBy, rows, Instr.change])

theorem operandD_namedBy :
    NamedBy (Controls.ofCfg w).operandD (decodeGroup .operandD w) .dSrc .dFb .dZero .dRsvd :=
  ofCfg_decodeGroup_of_rows (fun c i => NamedBy c.operandD i .dSrc .dFb .dZero .dRsvd)
    (by simp [NamedBy, rows, Instr.change])

/-- The constant is FIX of the word, from where both operations that name it take it. -/
theorem operandC_iff :
    ((Controls.ofCfg w).operandC = .sourceAlpha ↔ decodeGroup .operandC w = some .cAs) ∧
    ((Controls.ofCfg w).operandC = .framebufferAlpha ↔ decodeGroup .operandC w = some .cAd) ∧
    ((Controls.ofCfg w).operandC = .fixed ↔
      decodeGroup .operandC w = some (.cFix (Controls.ofCfg w).fix) ∨
      decodeGroup .operandC w = some (.cRsvd (Controls.ofCfg w).fix)) :=
  ofCfg_decodeGroup_of_rows (fun c i => (c.operandC = .sourceAlpha ↔ i = some .cAs) ∧
    (c.operandC = .framebufferAlpha ↔ i = some .cAd) ∧
    (c.operandC = .fixed ↔ i = some (.cFix c.fix) ∨ i = some (.cRsvd c.fix)))
    (by simp [rows, Instr.change])

end selected

/-- Settles O58: the enumerations are finite, and a group's rows name the members one by one, two rows
the last. -/
theorem selectorFieldsNameTheirMembers : Obligations.SelectorFieldsNameTheirMembers := by
  refine ⟨decodeRgbSel_eq_ite, decodeAlphaSel_eq_ite, fun _ _ => ⟨rfl, rfl, rfl⟩,
    fun _ _ _ => ⟨rfl, rfl, rfl⟩, fun w => ?_⟩
  obtain ⟨aSource, aFramebuffer, aZero⟩ := operandA_namedBy w
  obtain ⟨bSource, bFramebuffer, bZero⟩ := operandB_namedBy w
  obtain ⟨cSource, cFramebuffer, cFixed⟩ := operandC_iff w
  obtain ⟨dSource, dFramebuffer, dZero⟩ := operandD_namedBy w
  exact ⟨rfl, aSource, aFramebuffer, aZero, bSource, bFramebuffer, bZero, cSource, cFramebuffer, cFixed,
    dSource, dFramebuffer, dZero⟩

end Sys2Proof.Machine
